-- ==== Sys2Proof/Word.lean ====
section
/-! DEFINITION. The words of the hub: bytes, 16-bit counts, sets of event flags and of channels, timers. -/

namespace Sys2Proof

/-- A byte of a frame, and every 8-bit field of the hub: sequence and session numbers, tags, SEQ (00 section 5.3). -/
abbrev Byte := BitVec 8

/-- A 16-bit count: edges, counters, the late count, the lost count (00 section 5.3). -/
abbrev Word16 := BitVec 16

/-- A set of event flags, bit n standing for flag n (R178, R194). -/
abbrev FlagSet := BitVec 31

/-- A set of channels, bit c standing for channel c (R104). -/
abbrev ChannelSet := BitVec 64

/-- A timer: stopped, or running with the time left, in units of 0.1 ms. -/
abbrev Timer := Option Nat

end Sys2Proof
end

