-- ==== Sys2Proof/Config.lean ====
section
/-! DEFINITION. What the part fixes: its identification (R153), its table sizes, its fixed timers, the defaults of a link. The spec leaves no result open, so there is no free value here. -/

namespace Sys2Proof.Config

/-- R153: the vendor code. -/
def vendorCode : Byte := 0x2B

/-- R153: the part code. -/
def partCode : Word16 := 0x2404

/-- R153: the revision. -/
def revision : Byte := 1

/-- R153: the number of local lines. -/
abbrev lineCount : Nat := 24

/-- R1, R153: the number of channels. -/
abbrev channelCount : Nat := 64

/-- R42, R153: the number of combiners. -/
abbrev combinerCount : Nat := 8

/-- R56, R153: the number of links. -/
abbrev linkCount : Nat := 4

/-- R123, R153: the places of the remote request table. -/
def tableCapacity : Nat := 6

/-- R182, R153: the places of the notice queue. -/
def noticeCapacity : Nat := 16

/-- R43, R199: the most members of a combiner. -/
def memberCapacity : Nat := 16

/-- R112: the most entries of a CHANGE frame. -/
def changeEntries : Nat := 6

/-- R107: the count at which the edges of a pending entry saturate. -/
def entryEdges : Nat := 15

/-- R58, R77: the HELLO timer, 10 ms. -/
def helloTime : Nat := 100

/-- R71, R77: the fault hold-off, 100 ms. -/
def holdOffTime : Nat := 1000

/-- R90, R77: the ack delay, 2 ms. -/
def ackTime : Nat := 20

/-- R163: the gap timer of the host framer, 5 ms. -/
def hostGapTime : Nat := 50

/-- R197: the gap of a link framer, 1 ms. -/
def linkGapTime : Nat := 10

/-- R161, R195: the SYNC byte of a host frame. -/
def sync : Byte := 0x5A

/-- R197: the start byte of a link frame. -/
def linkStart : Byte := 0xC3

/-- R60: the version of a HELLO. -/
def helloVersion : Byte := 1

/-- R196: the KIND of a notice. -/
def noticeKind : Byte := 0x40

/-- R196: the KIND of a remote result. -/
def resultKind : Byte := 0x41

end Sys2Proof.Config
end

