-- ==== Sys2Proof/Syntax.lean ====
section
/-! DEFINITION. The commands of the hub: one constructor for each row of spec/opcode_table.json, in the table's order. -/

namespace Sys2Proof

/-- The steps of the hub, "each whole and indivisible" (95_what_each_step_holds.md).
A request row is the executor's grant and execution of a request of that kind (R145, R147): its operands are the body
of the request that the granted source holds, so the constructor carries none. DESIGN CHOICE, safe (log 1).
A link, a line or a byte that the outside names is an operand. -/
inductive Instr where
  /-- POWER_RESET_ENTRY (R158): RESETN falls. -/
  | powerResetEntry
  /-- POWER_RESET_EXIT (R158, R160): RESETN rises, or power-up completes; the levels of the straps RATE1 and RATE0. -/
  | powerResetExit (rate1 rate0 : Bool)
  /-- LINE_SAMPLE (R27): the pin of line `n` is sampled at `level`. -/
  | lineSample (n : Fin Config.lineCount) (level : Bool)
  /-- DEBOUNCE_EXPIRY (R30): the debounce interval of line `n` expires. -/
  | debounceExpiry (n : Fin Config.lineCount)
  /-- HOST_FRAME_RECEIVED (R164): `b` is the last byte of a host frame. -/
  | hostFrameReceived (b : Byte)
  /-- HOST_BAD_LENGTH (R162): `b` is received as LEN and is no length. -/
  | hostBadLength (b : Byte)
  /-- HOST_GAP_TIMER_EXPIRY (R163). -/
  | hostGapTimerExpiry
  /-- HOST_CHARACTER_ERROR (R165): a character with a low stop bit. -/
  | hostCharacterError
  /-- HOST_TX_END (R173): the frame on the host transmitter ends. -/
  | hostTxEnd
  /-- UNKNOWN_KIND_REQUEST (R148). -/
  | unknownKindRequest
  /-- IDENTIFY (R153). -/
  | identify
  /-- STATUS (R154). -/
  | status
  /-- RESET (R155). -/
  | reset
  /-- SET_NODE (R59). -/
  | setNode
  /-- CHANNEL_BIND (R11). -/
  | channelBind
  /-- CHANNEL_UNBIND (R15). -/
  | channelUnbind
  /-- CHANNEL_SET with action DRIVE_0 (R17). -/
  | channelSetDrive0
  /-- CHANNEL_SET with action DRIVE_1 (R17). -/
  | channelSetDrive1
  /-- CHANNEL_SET with action PULSE (R18). -/
  | channelSetPulse
  /-- CHANNEL_SET with action WITHDRAW (R19). -/
  | channelSetWithdraw
  /-- CHANNEL_WATCH (R23). -/
  | channelWatch
  /-- CHANNEL_READ (R24). -/
  | channelRead
  /-- LINE_CONFIG (R36). -/
  | lineConfig
  /-- LINE_SET (R39). -/
  | lineSet
  /-- LINE_READ (R40). -/
  | lineRead
  /-- COMBINER_CONFIG (R51, R52). -/
  | combinerConfig
  /-- COMBINER_READ (R54). -/
  | combinerRead
  /-- LINK_CONTROL with action ENABLE (R74). -/
  | linkControlEnable
  /-- LINK_CONTROL with action DISABLE (R75). -/
  | linkControlDisable
  /-- LINK_CONTROL with action RESTART (R76). -/
  | linkControlRestart
  /-- LINK_CONFIG (R77). -/
  | linkConfig
  /-- LINK_POLICY (R78). -/
  | linkPolicy
  /-- LINK_STATUS (R79). -/
  | linkStatus
  /-- LINK_EXPORT (R105). -/
  | linkExport
  /-- LINK_STATS (R103). -/
  | linkStats
  /-- REMOTE_SEND (R126). -/
  | remoteSend
  /-- EVENTS_READ (R181). -/
  | eventsRead
  /-- EVENTS_CLEAR (R180). -/
  | eventsClear
  /-- NOTICE_CONFIG (R188). -/
  | noticeConfig
  /-- ALERT_CONFIG (R190). -/
  | alertConfig
  /-- HOST_STATS (R176). -/
  | hostStats
  /-- LINK_FRAME_RECEIVED (R84, R197): `b` is the last byte of a frame on link `k`. -/
  | linkFrameReceived (k : Fin Config.linkCount) (b : Byte)
  /-- LINK_FRAMER_GAP_EXPIRY (R197): more than 1 ms without a byte inside a frame on link `k`. -/
  | linkFramerGapExpiry (k : Fin Config.linkCount)
  /-- HELLO_TIMER_EXPIRY (R58). -/
  | helloTimerExpiry (k : Fin Config.linkCount)
  /-- KEEPALIVE_TIMER_EXPIRY (R65). -/
  | keepaliveTimerExpiry (k : Fin Config.linkCount)
  /-- SILENCE_TIMER_EXPIRY (R66). -/
  | silenceTimerExpiry (k : Fin Config.linkCount)
  /-- HOLD_OFF_EXPIRY (R72). -/
  | holdOffExpiry (k : Fin Config.linkCount)
  /-- RETRANSMIT_TIMER_EXPIRY (R94). -/
  | retransmitTimerExpiry (k : Fin Config.linkCount)
  /-- ACK_TIMER_EXPIRY (R90). -/
  | ackTimerExpiry (k : Fin Config.linkCount)
  /-- LINK_TX_END (R97): the frame on the line of link `k` ends. -/
  | linkTxEnd (k : Fin Config.linkCount)
  /-- REMOTE_ENTRY_TIMEOUT (R131): the timer of the remote request table's entry `tag` expires. -/
  | remoteEntryTimeout (tag : Byte)
  /-- HOST_BYTE_RECEIVED (R162): `b` is received on HRXD. -/
  | hostByteReceived (b : Byte)
  /-- LINK_BYTE_RECEIVED (R197): `b` arrives on the line of link `k`. -/
  | linkByteReceived (k : Fin Config.linkCount) (b : Byte)
deriving DecidableEq, Repr

end Sys2Proof
end

