-- ==== Sys2Proof/WellFormed.lean ====
section
/-! DEFINITION. Which commands the table's rows admit. Line and link numbers are bounded by their types; one row bounds its byte. -/

namespace Sys2Proof

/-- R162: a byte that is no LEN, 0 or 65 to 255. -/
def isBadLength (b : Byte) : Bool := b == 0 || 64 < b.toNat

/-- HOST_BAD_LENGTH reports a byte that is no LEN (R162); every other row takes every operand. -/
def Instr.wellFormed : Instr → Bool
  | .hostBadLength b => isBadLength b
  | _ => true

end Sys2Proof
end

