-- ==== Sys2Proof/Machine/State.lean ====
section
/-! DEFINITION. The state of the hub as the spec gives it, block by block, as plain data, and its value right after power reset. -/

namespace Sys2Proof.Machine

/-! ### Indices -/

/-- A channel number, 0 to 63 (R1). -/
abbrev ChannelId := Fin Config.channelCount
/-- A line number, L0 to L23 (R25). -/
abbrev LineId := Fin Config.lineCount
/-- A combiner number, 0 to 7 (R42). -/
abbrev CombinerId := Fin Config.combinerCount
/-- A link number, 0 to 3 (R56). -/
abbrev LinkId := Fin Config.linkCount

/-! ### The channel table -/

/-- What writes a channel (R1, R5). -/
inductive ChannelSource where
  | none
  | line (n : LineId)
  | host
  | link (k : LinkId)
  | combiner (m : CombinerId)
  | linkStat (k : LinkId)
deriving DecidableEq, Repr

/-- Whether the value of a channel is current (R2). -/
inductive Validity where
  | unknown
  | valid
  | stale
deriving DecidableEq, Repr

/-- A channel record (R1). -/
structure Channel where
  source : ChannelSource
  state : Validity
  value : Bool
  edges : Word16
  watch : Bool
deriving DecidableEq, Repr

/-! ### The line bank -/

/-- What the hub does with a pin (R26). -/
inductive LineMode where
  | off
  | input
  | output
deriving DecidableEq, Repr

/-- The pull resistor of a pin (R25). -/
inductive Pull where
  | none
  | up
  | down
deriving DecidableEq, Repr

/-- How a drive of 1 reaches the pin (R35). -/
inductive OutputType where
  | pushPull
  | openDrain
deriving DecidableEq, Repr

/-- What an output line follows (R25, R31). -/
inductive Driver where
  | manual
  | channel (c : ChannelId)
deriving DecidableEq, Repr

/-- What an output line does while its driver channel is not VALID (R33). -/
inductive StaleAction where
  | hold
  | low
  | high
  | release
deriving DecidableEq, Repr

/-- What the hub is doing to a pin (R25, R35). -/
inductive Drive where
  | released
  | driving0
  | driving1
deriving DecidableEq, Repr

/-- A line record (R25); `interval` is the debounce interval of R28. -/
structure Line where
  mode : LineMode
  pull : Pull
  inverted : Bool
  debounce : Byte
  output : OutputType
  idle : Bool
  driver : Driver
  stale : StaleAction
  manual : Bool
  drive : Drive
  raw : Bool
  debounced : Bool
  edges : Word16
  interval : Timer
deriving DecidableEq, Repr

/-! ### The combiner bank -/

/-- A member entry of a combiner (R42). -/
structure Member where
  channel : ChannelId
  invert : Bool
deriving DecidableEq, Repr

/-- How a combiner counts a member that is not VALID (R44). -/
inductive StalePolicy where
  | assert
  | deassert
  | hold
  | propagate
deriving DecidableEq, Repr

/-- A combiner record (R42). -/
structure Combiner where
  members : List Member
  threshold : Nat
  outInvert : Bool
  policy : StalePolicy
  outValue : Bool
  outValid : Bool
deriving DecidableEq, Repr

/-! ### The link engines -/

/-- The session state of a link (R57). -/
inductive LinkState where
  | off
  | seeking
  | up
  | fault
deriving DecidableEq, Repr

/-- The cause of an entry into FAULT (R71). -/
inductive FaultCause where
  | none
  | retryLimit
  | selfLoop
  | version
deriving DecidableEq, Repr

/-- The remote access policy of a link (R78, R141). -/
inductive Policy where
  | none
  | observe
  | operate
  | full
deriving DecidableEq, Repr

/-- The six configuration fields of a link, in the units of LINK_CONFIG (R77): keepalive and retransmit in ms, silence in 10 ms. -/
structure LinkConfig where
  keepalive : Byte
  silence : Byte
  retransmit : Byte
  maxRetries : Byte
  window : Byte
  autoRestart : Bool
deriving DecidableEq, Repr

/-- The kinds of data frame (05, R81). -/
inductive DataKind where
  | change
  | rreq
  | rres
deriving DecidableEq, Repr

/-- A frame record of a retransmit queue (R81). -/
structure FrameRecord where
  seq : Byte
  kind : DataKind
  body : List Byte
deriving DecidableEq, Repr

/-- An entry of a pending change list (R107). -/
structure ChangeEntry where
  channel : ChannelId
  value : Bool
  valid : Bool
  edges : Nat
deriving DecidableEq, Repr

/-- The inbound slot of a link (R137). -/
inductive Slot where
  | empty
  | waiting (tag kind : Byte) (body : List Byte)
  | replied (tag kind status : Byte) (data : List Byte)
deriving DecidableEq, Repr

/-- The receive framer of a link (R197): `got` is what it holds after the start byte, `due` the bytes still missing. -/
inductive LinkFramer where
  | hunting
  | header (got : List Byte)
  | body (got : List Byte) (due : Nat)
deriving DecidableEq, Repr

/-- The nine counters of a link (R101), in the order of LINK_STATS (R103). -/
structure LinkCounters where
  sent : Word16
  resent : Word16
  receivedGood : Word16
  crcErrors : Word16
  duplicates : Word16
  outOfOrder : Word16
  badAcks : Word16
  strayEntries : Word16
  timerExpiries : Word16
deriving DecidableEq, Repr

/-- What a link engine holds: session (R56), transport (R81), export set and pending change list (R104, R107), inbound slot
(R137), receive framer (R197) and the frame in transmission on its line, `none` while the line is free (R97). -/
structure Link where
  state : LinkState
  session : Byte
  seen : Bool
  peerNode : Option Byte
  peerSession : Byte
  peerWindow : Byte
  lastFault : FaultCause
  config : LinkConfig
  policy : Policy
  helloTimer : Timer
  keepaliveTimer : Timer
  silenceTimer : Timer
  holdOffTimer : Timer
  helloOwed : Bool
  keepaliveDue : Bool
  nextSend : Byte
  queue : List FrameRecord
  retryCount : Nat
  resendPoint : Option Byte
  retransmitTimer : Timer
  nextExpected : Byte
  ackOwed : Bool
  ackDue : Bool
  ackTimer : Timer
  counters : LinkCounters
  exported : ChannelSet
  changes : List ChangeEntry
  slot : Slot
  framer : LinkFramer
  gapTimer : Timer
  line : Option (List Byte)
deriving DecidableEq, Repr

/-! ### The remote request table -/

/-- Where a remote request stands (R124). -/
inductive EntryState where
  | queued
  | sent
  | done
  | orphan
deriving DecidableEq, Repr

/-- An entry of the remote request table (R123, R127). -/
structure RemoteEntry where
  tag : Byte
  link : LinkId
  kind : Byte
  body : List Byte
  timeout : Byte
  state : EntryState
  orphanMark : Bool
  status : Byte
  data : List Byte
  timer : Timer
deriving DecidableEq, Repr

/-- The remote request table (R123). The entries stand in the order in which REMOTE_SEND accepted them: that order is the
acceptance order (log 16). `doneOrder` holds the tags of the DONE entries, the next to deliver first. -/
structure RemoteTable where
  entries : List RemoteEntry
  doneOrder : List Byte
  nextTag : Byte
  lateCount : Word16
deriving DecidableEq, Repr

/-! ### The request executor -/

/-- The five sources of the executor (R144). -/
inductive Source where
  | host
  | slot (k : LinkId)
deriving DecidableEq, Repr

/-- The executor (R145, R155). -/
structure Executor where
  pointer : Source
  resetPending : Bool
deriving DecidableEq, Repr

/-! ### The host port -/

/-- The UART rates (R160). -/
inductive UartRate where
  | baud115200
  | baud460800
  | baud1000000
  | baud3000000
deriving DecidableEq, Repr

/-- The receive framer of the host port (R161). -/
inductive HostFramer where
  | hunt
  | length
  | collect (len : Byte) (got : List Byte) (due : Nat)
  | discard
deriving DecidableEq, Repr

/-- A host frame without its SYNC, LEN and CRC, which follow from these fields (11 section 11.3). It also is the form of a
request the host port holds. -/
structure HostFrame where
  seq : Byte
  kind : Byte
  body : List Byte
deriving DecidableEq, Repr

/-- The five counters of the host port, in the order of R176. -/
structure HostCounters where
  crcErrors : Word16
  framingErrors : Word16
  sequenceGaps : Word16
  overruns : Word16
  retries : Word16
deriving DecidableEq, Repr

/-- The host port (R160, R161, R167, R173, R175, R176). `sending` is the frame in transmission, `none` while the transmitter
is free. -/
structure HostPort where
  rate : UartRate
  framer : HostFramer
  gapTimer : Timer
  lastSeq : Option Byte
  cache : Option HostFrame
  outstanding : Bool
  accepted : Option HostFrame
  queued : Option HostFrame
  sending : Option (List Byte)
  outSeq : Byte
  counters : HostCounters
deriving DecidableEq, Repr

/-! ### The event unit -/

/-- The 31 event flags (R178). -/
inductive Flag where
  | hostCrc
  | hostFraming
  | hostSeqGap
  | hostOverrun
  | noticeLost
  | remoteTimeout
  | lateReply
  | linkUp (k : LinkId)
  | linkLost (k : LinkId)
  | linkFault (k : LinkId)
  | peerRestart (k : LinkId)
  | linkCrc (k : LinkId)
  | linkStray (k : LinkId)
deriving DecidableEq, Repr

/-- The cause a START notice reports (R182, R189). -/
inductive ResetCause where
  | power
  | soft
deriving DecidableEq, Repr

/-- A notice (R182). The detail byte of an EVENT is fixed when it is queued (R183, 11 section 11.7). -/
inductive Notice where
  | start (cause : ResetCause)
  | event (flag : Flag) (detail : Byte)
  | channel (c : ChannelId) (state : Validity) (value : Bool) (edges : Word16)
  | lost (count : Word16)
deriving DecidableEq, Repr

/-- The event unit (R178, R182, R188, R190, R191). `alertn` is whether ALERTN is asserted. -/
structure EventUnit where
  flags : FlagSet
  noticeMask : FlagSet
  alertMask : FlagSet
  alertChannel : Option ChannelId
  alertInvert : Bool
  notices : List Notice
  lost : Word16
  alertn : Bool
deriving DecidableEq, Repr

/-! ### The hub -/

/-- The whole hub: its eight blocks (00 section 3), its node id (R59), whether RESETN holds it in power reset (R158), and the
model's own queue of the commands that wait, first in first out. -/
structure State where
  channels : Vector Channel Config.channelCount
  lines : Vector Line Config.lineCount
  combiners : Vector Combiner Config.combinerCount
  links : Vector Link Config.linkCount
  remote : RemoteTable
  executor : Executor
  host : HostPort
  events : EventUnit
  node : Byte
  held : Bool
  pending : List Instr
deriving DecidableEq, Repr

/-- No rule of the spec stops the hub, so a command ends in no fault: this type has no constructor. -/
inductive Fault : Type
deriving DecidableEq, Repr

/-- Why a command has no meaning in this model. -/
inductive Refusal where
  /-- Raised by an arm of exec whose command has no meaning yet: no arm of this model does. Safe: nothing is claimed. -/
  | notModelled (mnemonic : String)
deriving DecidableEq, Repr

/-! ### Reset values -/

/-- R4: a channel record after reset. -/
def Channel.reset : Channel :=
  { source := .none, state := .unknown, value := false, edges := 0, watch := false }

/-- R41: a line record after reset. The raw and debounced levels stand at 0 until the first sample: DESIGN CHOICE, unsafe (log 7). -/
def Line.reset : Line :=
  { mode := .off, pull := .none, inverted := false, debounce := 0, output := .pushPull, idle := false, driver := .manual,
    stale := .hold, manual := false, drive := .released, raw := false, debounced := false, edges := 0, interval := none }

/-- R55: a combiner record after reset. -/
def Combiner.reset : Combiner :=
  { members := [], threshold := 1, outInvert := false, policy := .assert, outValue := false, outValid := false }

/-- R77: the default configuration of a link. -/
def LinkConfig.default : LinkConfig :=
  { keepalive := 50, silence := 20, retransmit := 20, maxRetries := 4, window := 4, autoRestart := true }

/-- R102: all nine counters 0. -/
def LinkCounters.zero : LinkCounters :=
  { sent := 0, resent := 0, receivedGood := 0, crcErrors := 0, duplicates := 0, outOfOrder := 0, badAcks := 0,
    strayEntries := 0, timerExpiries := 0 }

/-- R80, R81, R102, R104, R107, R143, R197: a link engine after reset. -/
def Link.reset : Link :=
  { state := .off, session := 0, seen := false, peerNode := none, peerSession := 0, peerWindow := 0, lastFault := .none,
    config := LinkConfig.default, policy := .observe, helloTimer := none, keepaliveTimer := none, silenceTimer := none,
    holdOffTimer := none, helloOwed := false, keepaliveDue := false, nextSend := 0, queue := [], retryCount := 0,
    resendPoint := none, retransmitTimer := none, nextExpected := 0, ackOwed := false, ackDue := false, ackTimer := none,
    counters := LinkCounters.zero, exported := 0, changes := [], slot := .empty, framer := .hunting, gapTimer := none,
    line := none }

/-- R143: the remote request table after reset. -/
def RemoteTable.reset : RemoteTable :=
  { entries := [], doneOrder := [], nextTag := 0, lateCount := 0 }

/-- R145, R157: the executor after reset. -/
def Executor.reset : Executor := { pointer := .host, resetPending := false }

/-- R176: all five counters 0. -/
def HostCounters.zero : HostCounters :=
  { crcErrors := 0, framingErrors := 0, sequenceGaps := 0, overruns := 0, retries := 0 }

/-- R177: the host port after reset, at a UART rate. -/
def HostPort.reset (rate : UartRate) : HostPort :=
  { rate := rate, framer := .hunt, gapTimer := none, lastSeq := none, cache := none, outstanding := false, accepted := none,
    queued := none, sending := none, outSeq := 0, counters := HostCounters.zero }

/-- R193: the alert mask after reset, LINK_LOST_0 to LINK_FAULT_3 (flags 11 to 18). -/
def EventUnit.defaultAlertMask : FlagSet := 0x0007F800

/-- R193: the event unit after a reset, with the notices its queue then holds. -/
def EventUnit.reset (notices : List Notice) : EventUnit :=
  { flags := 0, noticeMask := BitVec.allOnes 31, alertMask := EventUnit.defaultAlertMask, alertChannel := none,
    alertInvert := false, notices := notices, lost := 0, alertn := false }

/-- Every block at its reset value (R157, R158), with the UART rate, the notices, whether RESETN is low, and the queue of commands. -/
def State.resetWith (rate : UartRate) (notices : List Notice) (held : Bool) (pending : List Instr) : State :=
  { channels := Vector.replicate _ Channel.reset
    lines := Vector.replicate _ Line.reset
    combiners := Vector.replicate _ Combiner.reset
    links := Vector.replicate _ Link.reset
    remote := RemoteTable.reset
    executor := Executor.reset
    host := HostPort.reset rate
    events := EventUnit.reset notices
    node := 0
    held := held
    pending := pending }

/-- The hub right after power reset: START POWER in the notice queue (R189), the straps at 00 (DESIGN CHOICE, unsafe, log 8),
before the output arbiter's first choice (R177, log 6), with no command waiting. -/
def State.reset : State := State.resetWith .baud115200 [.start .power] false []

end Sys2Proof.Machine
end

