-- ==== Sys2Proof/Machine/Formats.lean ====
section
/-! DEFINITION. How values are written into bytes (11_message_and_frame_formats.md): the CRC, the value codes, host frames, link frames, reports, notices. -/

namespace Sys2Proof.Machine

/-! ### Numbers and sets (R194) -/

/-- R194: a two-byte number, high byte first. -/
def bytesOf16 (w : Word16) : List Byte := [w.extractLsb' 8 8, w.extractLsb' 0 8]

/-- R194: a flag mask as four bytes, high byte first, bit 31 unused and sent as 0. -/
def bytesOfFlags (f : FlagSet) : List Byte :=
  let w : BitVec 32 := f.setWidth 32
  [w.extractLsb' 24 8, w.extractLsb' 16 8, w.extractLsb' 8 8, w.extractLsb' 0 8]

/-- R194: the flags a mask of four bytes names; bit 31 is ignored. -/
def flagsOfBytes (b3 b2 b1 b0 : Byte) : FlagSet := (b3 ++ b2 ++ b1 ++ b0 : BitVec 32).setWidth 31

/-- R194: the channels a list of bytes names, byte i holding channels 8i to 8i + 7; missing bytes name none. -/
def channelsOfBytes (bs : List Byte) : ChannelSet :=
  (bs.foldr (fun b acc => (acc <<< 8) ||| b.setWidth 64) 0 : BitVec 64)

/-- A Bool at bit `n` of a byte. -/
def bitAt (n : Nat) (b : Bool) : Byte := if b then 1 <<< n else 0

/-- R194: off, no, "without clear" is 0; on, yes, "with clear" is 1. -/
def byteOfBool (b : Bool) : Byte := if b then 1 else 0

/-- A count as one byte. -/
def byteOfNat (n : Nat) : Byte := BitVec.ofNat 8 n

/-! ### The CRC (R195) -/

/-- R195 step 3: one shift of the register. -/
def crcShift (r : Word16) : Word16 := if r.msb then (r <<< 1) ^^^ 0x1021 else r <<< 1

/-- R195 steps 2 and 3: one byte. -/
def crcByte (r : Word16) (b : Byte) : Word16 :=
  crcShift (crcShift (crcShift (crcShift (crcShift (crcShift (crcShift (crcShift (r ^^^ (b.setWidth 16 <<< 8)))))))))

/-- R195: the CRC-16 of the covered bytes. -/
def crc16 (bs : List Byte) : Word16 := bs.foldl crcByte 0xFFFF

/-! ### Value codes (11 section 11.5) -/

/-- The status of a reply (R152). -/
inductive Status where
  | ok
  | unknownKind
  | badLength
  | badArgument
  | denied
  | conflict
  | loop
  | wrongState
  | busy
  | notReady
  | linkNotUp
  | timeout
  | linkDown
deriving DecidableEq, Repr

/-- The status codes (11 section 11.5). -/
def Status.code : Status → Byte
  | .ok => 0x00
  | .unknownKind => 0x01
  | .badLength => 0x02
  | .badArgument => 0x03
  | .denied => 0x04
  | .conflict => 0x05
  | .loop => 0x06
  | .wrongState => 0x07
  | .busy => 0x08
  | .notReady => 0x09
  | .linkNotUp => 0x0A
  | .timeout => 0x0B
  | .linkDown => 0x0C

/-- The code of a source kind. -/
def ChannelSource.kindCode : ChannelSource → Byte
  | .none => 0
  | .line _ => 1
  | .host => 2
  | .link _ => 3
  | .combiner _ => 4
  | .linkStat _ => 5

/-- The source index, 0 for NONE and HOST (R24). -/
def ChannelSource.index : ChannelSource → Byte
  | .none => 0
  | .line n => byteOfNat n
  | .host => 0
  | .link k => byteOfNat k
  | .combiner m => byteOfNat m
  | .linkStat k => byteOfNat k

/-- The code of a channel state. -/
def Validity.code : Validity → Byte
  | .unknown => 0
  | .valid => 1
  | .stale => 2

/-- The code of a line mode. -/
def LineMode.code : LineMode → Byte
  | .off => 0
  | .input => 1
  | .output => 2

/-- The code of a pull. -/
def Pull.code : Pull → Byte
  | .none => 0
  | .up => 1
  | .down => 2

/-- The code of an output type. -/
def OutputType.code : OutputType → Byte
  | .pushPull => 0
  | .openDrain => 1

/-- The code of a stale action. -/
def StaleAction.code : StaleAction → Byte
  | .hold => 0
  | .low => 1
  | .high => 2
  | .release => 3

/-- The code of a driver: a channel number, or 0xFF for MANUAL. -/
def Driver.code : Driver → Byte
  | .manual => 0xFF
  | .channel c => byteOfNat c

/-- The code of a drive. -/
def Drive.code : Drive → Byte
  | .released => 0
  | .driving0 => 1
  | .driving1 => 2

/-- The code of a stale policy. -/
def StalePolicy.code : StalePolicy → Byte
  | .assert => 0
  | .deassert => 1
  | .hold => 2
  | .propagate => 3

/-- The code of a link state. -/
def LinkState.code : LinkState → Byte
  | .off => 0
  | .seeking => 1
  | .up => 2
  | .fault => 3

/-- The code of a fault cause. -/
def FaultCause.code : FaultCause → Byte
  | .none => 0
  | .retryLimit => 1
  | .selfLoop => 2
  | .version => 3

/-- The code of a policy. -/
def Policy.code : Policy → Byte
  | .none => 0
  | .observe => 1
  | .operate => 2
  | .full => 3

/-- The code of a START cause. -/
def ResetCause.code : ResetCause → Byte
  | .power => 1
  | .soft => 2

/-- The code of an alert channel: a channel number, or 0xFF for none. -/
def alertChannelCode : Option ChannelId → Byte
  | none => 0xFF
  | some c => byteOfNat c

/-- The number of an event flag (R178). -/
def Flag.number : Flag → Nat
  | .hostCrc => 0
  | .hostFraming => 1
  | .hostSeqGap => 2
  | .hostOverrun => 3
  | .noticeLost => 4
  | .remoteTimeout => 5
  | .lateReply => 6
  | .linkUp k => 7 + k
  | .linkLost k => 11 + k
  | .linkFault k => 15 + k
  | .peerRestart k => 19 + k
  | .linkCrc k => 23 + k
  | .linkStray k => 27 + k

/-! ### Host frames (11 section 11.3) -/

/-- R195: the bytes the CRC of a host frame covers: LEN, SEQ, KIND, BODY. -/
def HostFrame.covered (f : HostFrame) : List Byte := byteOfNat (f.body.length + 1) :: f.seq :: f.kind :: f.body

/-- A host frame as it stands on the UART. -/
def HostFrame.bytes (f : HostFrame) : List Byte := Config.sync :: f.covered ++ bytesOf16 (crc16 f.covered)

/-- R178, 11 section 11.7: the body of a notice. -/
def Notice.body : Notice → List Byte
  | .start cause => [1, cause.code]
  | .event flag detail => [2, byteOfNat flag.number, detail]
  | .channel c st v e => [3, byteOfNat c, st.code, byteOfBool v] ++ bytesOf16 e
  | .lost n => 4 :: bytesOf16 n

/-- 11 section 11.7: the body of a remote result. -/
def RemoteEntry.resultBody (e : RemoteEntry) : List Byte := e.tag :: byteOfNat e.link :: e.kind :: e.status :: e.data

/-! ### Link frames (11 section 11.4) -/

/-- A link frame without its start byte, LEN and CRC, which follow from these fields. -/
structure LinkFrame where
  kind : Byte
  seq : Byte
  ack : Byte
  body : List Byte
deriving DecidableEq, Repr

/-- 11 section 11.4: the code of HELLO. -/
def helloKind : Byte := 1
/-- 11 section 11.4: the code of ACK. -/
def ackKind : Byte := 2

/-- 11 section 11.4: the codes of the data frames. -/
def DataKind.code : DataKind → Byte
  | .change => 3
  | .rreq => 4
  | .rres => 5

/-- R195: the bytes the CRC of a link frame covers: KIND, SEQ, ACK, LEN, BODY. -/
def LinkFrame.covered (f : LinkFrame) : List Byte := f.kind :: f.seq :: f.ack :: byteOfNat f.body.length :: f.body

/-- A link frame as it stands on the line. -/
def LinkFrame.bytes (f : LinkFrame) : List Byte := Config.linkStart :: f.covered ++ bytesOf16 (crc16 f.covered)

/-- R198: the lengths a link frame's body may have. -/
def linkLengthFits (kind : Byte) (len : Nat) : Bool :=
  match kind.toNat with
  | 1 => len == 6
  | 2 => len == 0
  | 3 => len == 2 || len == 4 || len == 6 || len == 8 || len == 10 || len == 12
  | 4 => 2 ≤ len && len ≤ 59
  | 5 => 3 ≤ len && len ≤ 59
  | _ => false

/-- A received link frame and whether it passes the check of R85: what the framer holds after the start byte is KIND, SEQ, ACK,
LEN, the body and the CRC. -/
def receivedFrame : List Byte → LinkFrame × Bool
  | kind :: seq :: ack :: len :: rest =>
    let body := rest.take len.toNat
    (⟨kind, seq, ack, body⟩,
      rest.drop len.toNat == bytesOf16 (crc16 (kind :: seq :: ack :: len :: body)) && linkLengthFits kind body.length)
  | _ => (⟨0, 0, 0, []⟩, false)

/-- R198: a CHANGE entry as two bytes. -/
def ChangeEntry.bytes (e : ChangeEntry) : List Byte :=
  [byteOfNat e.channel ||| bitAt 6 e.valid ||| bitAt 7 e.value, byteOfNat e.edges]

/-- R198: the CHANGE entry that two bytes give; bits 4 to 7 of the second are unused. -/
def changeEntryOf (b0 b1 : Byte) : ChangeEntry :=
  { channel := Fin.ofNat 64 (b0.toNat % 64), value := b0.getLsbD 7, valid := b0.getLsbD 6, edges := b1.toNat % 16 }

/-- R198: the entries of a CHANGE frame's body, in frame order. -/
def changeEntriesOf : List Byte → List ChangeEntry
  | b0 :: b1 :: rest => changeEntryOf b0 b1 :: changeEntriesOf rest
  | _ => []

/-! ### Reports (11 section 11.6) -/

/-- 11 section 11.6: a channel report; `ex k` is whether link k exports the channel. -/
def Channel.report (ch : Channel) (ex : LinkId → Bool) : List Byte :=
  [ch.source.kindCode ||| (ch.source.index <<< 3),
   ch.state.code ||| bitAt 2 ch.value ||| bitAt 3 ch.watch ||| bitAt 4 (ex 0) ||| bitAt 5 (ex 1) ||| bitAt 6 (ex 2)
     ||| bitAt 7 (ex 3)] ++ bytesOf16 ch.edges

/-- 11 section 11.6: a line report. -/
def Line.report (l : Line) : List Byte :=
  [l.mode.code ||| (l.pull.code <<< 2) ||| bitAt 4 l.inverted ||| (l.output.code <<< 5) ||| bitAt 6 l.idle ||| bitAt 7 l.manual,
   l.debounce, l.driver.code,
   l.stale.code ||| (l.drive.code <<< 2) ||| bitAt 4 l.raw ||| bitAt 5 l.debounced] ++ bytesOf16 l.edges

/-- 11 section 11.6: a member report; the present input and whether the channel is VALID. -/
def Member.report (mb : Member) (input valid : Bool) : List Byte :=
  [byteOfNat mb.channel, bitAt 0 mb.invert ||| bitAt 1 input ||| bitAt 2 valid]

/-- 11 section 11.6: the six configuration fields in LINK_CONFIG order. -/
def LinkConfig.report (cf : LinkConfig) : List Byte :=
  [cf.keepalive, cf.silence, cf.retransmit, cf.maxRetries, cf.window, byteOfBool cf.autoRestart]

/-- R103: the nine counters, two bytes each. -/
def LinkCounters.report (n : LinkCounters) : List Byte :=
  bytesOf16 n.sent ++ bytesOf16 n.resent ++ bytesOf16 n.receivedGood ++ bytesOf16 n.crcErrors ++ bytesOf16 n.duplicates
    ++ bytesOf16 n.outOfOrder ++ bytesOf16 n.badAcks ++ bytesOf16 n.strayEntries ++ bytesOf16 n.timerExpiries

/-- R176: the five counters, two bytes each. -/
def HostCounters.report (n : HostCounters) : List Byte :=
  bytesOf16 n.crcErrors ++ bytesOf16 n.framingErrors ++ bytesOf16 n.sequenceGaps ++ bytesOf16 n.overruns ++ bytesOf16 n.retries

end Sys2Proof.Machine
end

