-- ==== Sys2Proof/Machine/Operands.lean ====
section
/-! DEFINITION. The operands of the requests: the kind codes and body lengths of R196 and R199, and the values that a byte of a body may name (11 section 11.5). A code that names no value gives none. -/

namespace Sys2Proof.Machine

/-- R196: the request kinds are codes 0x01 to 0x1A. -/
def isRequestKind (kind : Byte) : Bool := 0x01 ≤ kind.toNat && kind.toNat ≤ 0x1A

/-- R199: whether a request kind allows this body length. A kind that is no request kind allows none (R149). -/
def lengthFits (kind : Byte) (body : List Byte) : Bool :=
  match kind.toNat with
  | 0x01 => body.length == 0
  | 0x02 => body.length == 0
  | 0x03 => body.length == 0
  | 0x04 => body.length == 1
  | 0x05 => body.length == 3
  | 0x06 => body.length == 1
  | 0x07 => body.length == 2
  | 0x08 => body.length == 2
  | 0x09 => body.length == 2
  | 0x0A => body.length == 10
  | 0x0B => body.length == 2
  | 0x0C => body.length == 2
  | 0x0D =>
    match body with
    | _ :: _ :: _ :: _ :: count :: _ => body.length == 5 + 2 * count.toNat && body.length ≤ 37
    | _ => false
  | 0x0E => body.length == 1
  | 0x0F => body.length == 2
  | 0x10 => body.length == 7
  | 0x11 => body.length == 2
  | 0x12 => body.length == 1
  | 0x13 =>
    match body with
    | _ :: count :: _ => body.length == 2 + count.toNat && count.toNat ≤ 8
    | _ => false
  | 0x14 => body.length == 2
  | 0x15 => 3 ≤ body.length && body.length ≤ 60
  | 0x16 => body.length == 0
  | 0x17 => body.length == 4
  | 0x18 => body.length == 4
  | 0x19 => body.length == 6
  | 0x1A => body.length == 1
  | _ => false

/-- R194: 0 or 1. -/
def boolOf (b : Byte) : Option Bool := if b = 0 then some false else if b = 1 then some true else none

/-- A number below `n`. -/
def indexOf (n : Nat) (b : Byte) : Option (Fin n) := if h : b.toNat < n then some ⟨b.toNat, h⟩ else none

/-- A channel number, 0 to 63. -/
def channelOf (b : Byte) : Option ChannelId := indexOf Config.channelCount b
/-- A line number, 0 to 23. -/
def lineOf (b : Byte) : Option LineId := indexOf Config.lineCount b
/-- A combiner number, 0 to 7. -/
def combinerOf (b : Byte) : Option CombinerId := indexOf Config.combinerCount b
/-- A link number, 0 to 3. -/
def linkOf (b : Byte) : Option LinkId := indexOf Config.linkCount b

/-- R11 check 1: the source that a source kind and a source index name. NONE is not one CHANNEL_BIND takes. -/
def sourceOf (kind index : Byte) : Option ChannelSource :=
  match kind.toNat with
  | 1 => (lineOf index).map .line
  | 2 => if index = 0 then some .host else none
  | 3 => (linkOf index).map .link
  | 4 => (combinerOf index).map .combiner
  | 5 => (linkOf index).map .linkStat
  | _ => none

/-- A line mode. -/
def modeOf (b : Byte) : Option LineMode :=
  match b.toNat with
  | 0 => some .off
  | 1 => some .input
  | 2 => some .output
  | _ => none

/-- A pull. -/
def pullOf (b : Byte) : Option Pull :=
  match b.toNat with
  | 0 => some .none
  | 1 => some .up
  | 2 => some .down
  | _ => none

/-- An output type. -/
def outputOf (b : Byte) : Option OutputType :=
  match b.toNat with
  | 0 => some .pushPull
  | 1 => some .openDrain
  | _ => none

/-- A stale action. -/
def staleOf (b : Byte) : Option StaleAction :=
  match b.toNat with
  | 0 => some .hold
  | 1 => some .low
  | 2 => some .high
  | 3 => some .release
  | _ => none

/-- A driver: a channel, or 0xFF for MANUAL; 64 to 254 name none. -/
def driverOf (b : Byte) : Option Driver := if b = 0xFF then some .manual else (channelOf b).map .channel

/-- A stale policy. -/
def stalePolicyOf (b : Byte) : Option StalePolicy :=
  match b.toNat with
  | 0 => some .assert
  | 1 => some .deassert
  | 2 => some .hold
  | 3 => some .propagate
  | _ => none

/-- A remote access policy. -/
def policyOf (b : Byte) : Option Policy :=
  match b.toNat with
  | 0 => some .none
  | 1 => some .observe
  | 2 => some .operate
  | 3 => some .full
  | _ => none

/-- An alert channel: a channel, or 0xFF for none; 64 to 254 name nothing. -/
def alertChannelOf (b : Byte) : Option (Option ChannelId) := if b = 0xFF then some none else (channelOf b).map some

/-- The actions of CHANNEL_SET (R16). -/
inductive SetAction where
  | drive0
  | drive1
  | pulse
  | withdraw
deriving DecidableEq, Repr

/-- An action of CHANNEL_SET. -/
def setActionOf (b : Byte) : Option SetAction :=
  match b.toNat with
  | 0 => some .drive0
  | 1 => some .drive1
  | 2 => some .pulse
  | 3 => some .withdraw
  | _ => none

/-- The actions of LINK_CONTROL (R73). -/
inductive ControlAction where
  | enable
  | disable
  | restart
deriving DecidableEq, Repr

/-- An action of LINK_CONTROL. -/
def controlActionOf (b : Byte) : Option ControlAction :=
  match b.toNat with
  | 1 => some .enable
  | 2 => some .disable
  | 3 => some .restart
  | _ => none

/-- The member list of a COMBINER_CONFIG: channel and invert per member. -/
def membersOf : List Byte → Option (List Member)
  | [] => some []
  | c :: i :: rest =>
    match channelOf c, boolOf i, membersOf rest with
    | some c, some i, some ms => some (⟨c, i⟩ :: ms)
    | _, _, _ => none
  | [_] => none

/-- R77 check 1: the configuration that the six fields of a LINK_CONFIG name, if each is in its range and the silence timeout is
at least twice the keepalive interval. -/
def linkConfigOf (keepalive silence retransmit maxRetries window auto : Byte) : Option LinkConfig :=
  match boolOf auto with
  | none => none
  | some a =>
    if 5 ≤ keepalive.toNat ∧ keepalive.toNat ≤ 250 ∧ 2 ≤ silence.toNat ∧ 2 ≤ retransmit.toNat ∧ 1 ≤ maxRetries.toNat ∧
        maxRetries.toNat ≤ 15 ∧ 1 ≤ window.toNat ∧ window.toNat ≤ 8 ∧ 2 * keepalive.toNat ≤ 10 * silence.toNat then
      some ⟨keepalive, silence, retransmit, maxRetries, window, a⟩
    else none

/-- The settings of a LINE_CONFIG (R36). -/
structure LineSettings where
  mode : LineMode
  pull : Pull
  inverted : Bool
  debounce : Byte
  output : OutputType
  idle : Bool
  driver : Driver
  stale : StaleAction
  manual : Bool
deriving DecidableEq, Repr

/-- R36 check 1: the settings that nine bytes name, all checked whatever the mode. -/
def lineSettingsOf (mode pull polarity debounce output idle driver stale manual : Byte) : Option LineSettings :=
  match modeOf mode, pullOf pull, boolOf polarity, outputOf output, boolOf idle, driverOf driver, staleOf stale, boolOf manual with
  | some m, some p, some i, some o, some d, some r, some a, some v => some ⟨m, p, i, debounce, o, d, r, a, v⟩
  | _, _, _, _, _, _, _, _ => none

/-- R160: the rate that the straps RATE1 and RATE0 select. -/
def rateOf (rate1 rate0 : Bool) : UartRate :=
  match rate1, rate0 with
  | false, false => .baud115200
  | false, true => .baud460800
  | true, false => .baud1000000
  | true, true => .baud3000000

end Sys2Proof.Machine
end

