-- ==== Sys2Proof/Machine/Ops.lean ====
section
/-! DEFINITION. The named operations over the state: reading and writing records, saturating counts, starting timers, the passing of time. -/

namespace Sys2Proof.Machine

/-! ### Vectors and index lists -/

/-- The vector whose record `i` is `f i`. -/
def tabulate {α : Type} {n : Nat} (f : Fin n → α) : Vector α n := ⟨(List.ofFn f).toArray, by simp⟩

/-- All channels, ascending. -/
def allChannels : List ChannelId := List.finRange _
/-- All lines, ascending. -/
def allLines : List LineId := List.finRange _
/-- All combiners, ascending. -/
def allCombiners : List CombinerId := List.finRange _
/-- All links, ascending. -/
def allLinks : List LinkId := List.finRange _

/-! ### Records -/

/-- Channel `c`'s record as it stands (R10). -/
def State.chan (s : State) (c : ChannelId) : Channel := s.channels.get c
/-- Line `n`'s record. -/
def State.lineAt (s : State) (n : LineId) : Line := s.lines.get n
/-- Combiner `m`'s record. -/
def State.comb (s : State) (m : CombinerId) : Combiner := s.combiners.get m
/-- Link `k`'s record. -/
def State.linkAt (s : State) (k : LinkId) : Link := s.links.get k

/-- Write channel `c`'s record. -/
def State.setChan (c : ChannelId) (x : Channel) (s : State) : State := { s with channels := s.channels.set c x }
/-- Write line `n`'s record. -/
def State.setLine (n : LineId) (x : Line) (s : State) : State := { s with lines := s.lines.set n x }
/-- Write combiner `m`'s record. -/
def State.setComb (m : CombinerId) (x : Combiner) (s : State) : State := { s with combiners := s.combiners.set m x }
/-- Change link `k`'s record. -/
def State.modLink (k : LinkId) (f : Link → Link) (s : State) : State := { s with links := s.links.set k (f (s.linkAt k)) }
/-- Change the remote request table. -/
def State.modRemote (f : RemoteTable → RemoteTable) (s : State) : State := { s with remote := f s.remote }
/-- Change the host port. -/
def State.modHost (f : HostPort → HostPort) (s : State) : State := { s with host := f s.host }
/-- Change the event unit. -/
def State.modEvents (f : EventUnit → EventUnit) (s : State) : State := { s with events := f s.events }
/-- Change the executor. -/
def State.modExecutor (f : Executor → Executor) (s : State) : State := { s with executor := f s.executor }

/-- The channel that `src` sources, if any; the channel table is asked (R1, R25, R42). -/
def State.boundTo (src : ChannelSource) (s : State) : Option ChannelId :=
  allChannels.find? fun c => (s.chan c).source == src

/-- Whether channel `c` is in link `k`'s export set (R104). -/
def Link.exports (l : Link) (c : ChannelId) : Bool := l.exported.getLsbD c

/-! ### Counts and times -/

/-- 00 section 5.3, R102: a 16-bit count that saturates at 65535. -/
def satAdd (w : Word16) (n : Nat) : Word16 := BitVec.ofNat 16 (min 65535 (w.toNat + n))

/-- A time of `b` ms as a timer's length. -/
def ofMs (b : Byte) : Nat := 10 * b.toNat

/-- A time of `b` units of 10 ms as a timer's length. -/
def ofTenMs (b : Byte) : Nat := 100 * b.toNat

/-- One unit of 0.1 ms passes at a timer; the time left stops at 0 until the expiry is taken (log 4). -/
def Timer.pass (t : Timer) : Timer := t.map (· - 1)

/-- Whether a timer has run out: its expiry can occur. One that is stopped, or started again, has not (log 4). -/
def Timer.ranOut : Timer → Bool
  | none => false
  | some left => left == 0

/-- One unit of time passes at a line. -/
def Line.pass (l : Line) : Line := { l with interval := Timer.pass l.interval }

/-- One unit of time passes at a link engine. -/
def Link.pass (l : Link) : Link :=
  { l with
    helloTimer := Timer.pass l.helloTimer
    keepaliveTimer := Timer.pass l.keepaliveTimer
    silenceTimer := Timer.pass l.silenceTimer
    holdOffTimer := Timer.pass l.holdOffTimer
    retransmitTimer := Timer.pass l.retransmitTimer
    ackTimer := Timer.pass l.ackTimer
    gapTimer := Timer.pass l.gapTimer }

/-- One unit of time passes at a remote request table entry (R127). -/
def RemoteEntry.pass (e : RemoteEntry) : RemoteEntry := { e with timer := Timer.pass e.timer }

/-- 0.1 ms passes: every running timer comes down by one unit, and nothing else changes (log 4). -/
def State.passTime (s : State) : State :=
  { s with
    lines := tabulate fun n => (s.lineAt n).pass
    links := tabulate fun k => (s.linkAt k).pass
    remote := { s.remote with entries := s.remote.entries.map RemoteEntry.pass }
    host := { s.host with gapTimer := Timer.pass s.host.gapTimer } }

end Sys2Proof.Machine
end

