-- ==== Sys2Proof/Machine/Flags.lean ====
section
/-! DEFINITION. The event unit (10_events_notices_and_the_alert_output.md): event flags, the notice queue, ALERTN. -/

namespace Sys2Proof.Machine

/-- Whether an event flag is set. -/
def EventUnit.isSet (f : Flag) (e : EventUnit) : Bool := e.flags.getLsbD f.number

/-- Whether the notice enable of a flag is on (R188). -/
def EventUnit.notices? (f : Flag) (e : EventUnit) : Bool := e.noticeMask.getLsbD f.number

/-- The set of one flag. -/
def Flag.bit (f : Flag) : FlagSet := 1#31 <<< f.number

/-- The flag becomes set. -/
def EventUnit.setFlag (f : Flag) (e : EventUnit) : EventUnit := { e with flags := e.flags ||| f.bit }

/-! ### ALERTN -/

/-- R191: a record meets the alert channel condition: not VALID, or VALID with value xor alert invert equal to 1. -/
def Channel.alerts (invert : Bool) (ch : Channel) : Bool := ch.state != .valid || (ch.value ^^ invert)

/-- R191: the alert channel condition. -/
def State.alertChannelHolds (s : State) : Bool :=
  match s.events.alertChannel with
  | none => false
  | some c => (s.chan c).alerts s.events.alertInvert

/-- R191: the condition under which ALERTN is asserted. -/
def State.alertHolds (s : State) : Bool := (s.events.flags &&& s.events.alertMask) != 0 || s.alertChannelHolds

/-- R191: ALERTN is re-evaluated and takes the result in the same event. -/
def State.evalAlert (s : State) : State := s.modEvents fun e => { e with alertn := s.alertHolds }

/-! ### The notice queue -/

/-- R185: a new notice meets a full queue. It is dropped and counted, and NOTICE_LOST is raised; when that sets the flag and its
notice enable is on, its own EVENT notice meets the same full queue and is dropped and counted in turn. -/
def State.dropNotice (s : State) : State :=
  if s.events.isSet .noticeLost then s.modEvents fun e => { e with lost := satAdd e.lost 1 }
  else
    State.evalAlert <| s.modEvents fun e =>
      { e.setFlag .noticeLost with lost := satAdd e.lost (if e.notices? .noticeLost then 2 else 1) }

/-- R185: a new notice is queued, or dropped when the queue is full. -/
def State.queueNotice (n : Notice) (s : State) : State :=
  if s.events.notices.length < Config.noticeCapacity then s.modEvents fun e => { e with notices := e.notices ++ [n] }
  else s.dropNotice

/-- R179, R183: a cause of flag `f` is raised; `detail` is the EVENT notice's detail byte. -/
def State.raise (f : Flag) (detail : Byte) (s : State) : State :=
  if s.events.isSet f then s
  else
    let t := s.modEvents (EventUnit.setFlag f)
    State.evalAlert (if t.events.notices? f then t.queueNotice (.event f detail) else t)

/-- Whether a notice is the CHANNEL notice of `c`. -/
def Notice.isChannel (c : ChannelId) : Notice → Bool
  | .channel d _ _ _ => d == c
  | _ => false

/-- R184: an offered change merges into the CHANNEL notice of its channel: the latest state and value, the sum of the edges,
saturating. Any other notice stays. -/
def Notice.merge (c : ChannelId) (st : Validity) (v : Bool) (inc : Nat) : Notice → Notice
  | .channel d st' v' e => if d = c then .channel d st v (satAdd e inc) else .channel d st' v' e
  | n => n

/-- R184: a change of watched channel `c` is taken into the notice queue. -/
def State.noticeChange (c : ChannelId) (inc : Nat) (s : State) : State :=
  let ch := s.chan c
  if s.events.notices.any (Notice.isChannel c) then
    s.modEvents fun e => { e with notices := e.notices.map (Notice.merge c ch.state ch.value inc) }
  else s.queueNotice (.channel c ch.state ch.value (satAdd 0 inc))

/-- R8, R184, R191: the event unit takes the offer of a change of channel `c`: the watch part, then the alert part. -/
def State.offerEvents (c : ChannelId) (inc : Nat) (s : State) : State :=
  let t := if (s.chan c).watch then s.noticeChange c inc else s
  if t.events.alertChannel = some c then t.evalAlert else t

/-- R182, R186: the head of the notice queue is delivered; a LOST notice takes its place when notices were lost. -/
def EventUnit.deliver (rest : List Notice) (e : EventUnit) : EventUnit :=
  if e.lost = 0 then { e with notices := rest } else { e with notices := rest ++ [.lost e.lost], lost := 0 }

end Sys2Proof.Machine
end

