-- ==== Sys2Proof/Machine/ChannelTable.lean ====
section
/-! DEFINITION. Channel changes and their consumers: the driver rule of output lines (R31 to R35), combiner evaluation (R44 to R48), the pending change lists (R107, R108), and the offers that tie them to the channel table (R6 to R9). -/

namespace Sys2Proof.Machine

/-! ### Output lines -/

/-- R31: the drive for a pin level. -/
def Drive.ofLevel (b : Bool) : Drive := if b then .driving1 else .driving0

/-- R33: the drive of a line whose driver channel is not VALID. LOW and HIGH are pin levels, not combined with the polarity. -/
def Line.staleDrive (l : Line) : Drive :=
  match l.stale with
  | .hold => l.drive
  | .low => .driving0
  | .high => .driving1
  | .release => .released

/-- R31: the driver rule. -/
def Line.driverRule (chan : ChannelId → Channel) (l : Line) : Drive :=
  match l.driver with
  | .manual => Drive.ofLevel (l.manual ^^ l.inverted)
  | .channel c =>
    if (chan c).state = .valid then Drive.ofLevel ((chan c).value ^^ l.inverted) else l.staleDrive

/-- R31: the driver rule is applied. -/
def Line.applyDriver (chan : ChannelId → Channel) (l : Line) : Line := { l with drive := l.driverRule chan }

/-- R32: a line takes the offer of a change of channel `c`. -/
def Line.takeOffer (chan : ChannelId → Channel) (c : ChannelId) (l : Line) : Line :=
  if l.mode = .output ∧ l.driver = .channel c then l.applyDriver chan else l

/-- What the hub does to a pin (R35). -/
inductive PinDrive where
  | drivenLow
  | drivenHigh
  | highImpedance (pull : Pull)
deriving DecidableEq, Repr

/-- R26, R35: the pin of a line. In OFF mode it is high impedance with no pull connected. -/
def Line.pin (l : Line) : PinDrive :=
  match l.mode, l.drive, l.output with
  | .off, _, _ => .highImpedance .none
  | _, .released, _ => .highImpedance l.pull
  | _, .driving0, _ => .drivenLow
  | _, .driving1, .pushPull => .drivenHigh
  | _, .driving1, .openDrain => .highImpedance l.pull

/-! ### Combiners -/

/-- R44: a member's input. -/
def Member.input (policy : StalePolicy) (chan : ChannelId → Channel) (mb : Member) : Bool :=
  if (chan mb.channel).state = .valid then (chan mb.channel).value ^^ mb.invert
  else
    match policy with
    | .assert => true
    | .deassert => false
    | .hold => (chan mb.channel).value ^^ mb.invert
    | .propagate => (chan mb.channel).value ^^ mb.invert

/-- R45: the number of inputs at 1. -/
def Combiner.inputsAt1 (chan : ChannelId → Channel) (cb : Combiner) : Nat := cb.members.countP (Member.input cb.policy chan)

/-- R54: the number of members whose channel is not VALID. -/
def Combiner.notValid (chan : ChannelId → Channel) (cb : Combiner) : Nat :=
  cb.members.countP fun mb => (chan mb.channel).state != .valid

/-- R45: the output value of an evaluation. -/
def Combiner.result (chan : ChannelId → Channel) (cb : Combiner) : Bool :=
  if cb.members = [] then false else decide (cb.threshold ≤ cb.inputsAt1 chan) ^^ cb.outInvert

/-- R46: the output valid of an evaluation. -/
def Combiner.resultValid (chan : ChannelId → Channel) (cb : Combiner) : Bool :=
  if cb.members = [] then false else !(cb.policy == .propagate && 0 < cb.notValid chan)

/-- R44 to R46: an evaluation. -/
def Combiner.evaluate (chan : ChannelId → Channel) (cb : Combiner) : Combiner :=
  { cb with outValue := cb.result chan, outValid := cb.resultValid chan }

/-- R46: the output state, the state that a channel bound to the combiner takes. -/
def Combiner.outState (cb : Combiner) : Validity :=
  if cb.members = [] then .unknown else if cb.outValid then .valid else .stale

/-- R47: whether channel `c` is one of the members. -/
def Combiner.hasMember (c : ChannelId) (cb : Combiner) : Bool := cb.members.any fun mb => mb.channel == c

/-- R47: a combiner takes the offer of a change of channel `c`. -/
def Combiner.takeOffer (chan : ChannelId → Channel) (c : ChannelId) (cb : Combiner) : Combiner :=
  if cb.hasMember c then cb.evaluate chan else cb

/-! ### Pending change lists -/

/-- R107: the edges of an entry saturate at 15. -/
def satEdges (n : Nat) : Nat := min Config.entryEdges n

/-- R108: a taken offer merges into its channel's entry in place, or is appended at the tail. -/
def mergeChange (c : ChannelId) (value valid : Bool) (inc : Nat) : List ChangeEntry → List ChangeEntry
  | [] => [⟨c, value, valid, satEdges inc⟩]
  | e :: es =>
    if e.channel = c then ⟨c, value, valid, satEdges (e.edges + inc)⟩ :: es else e :: mergeChange c value valid inc es

/-- R108: a link engine takes the offer of a change of channel `c`, whose record now is `ch`. -/
def Link.takeOffer (c : ChannelId) (ch : Channel) (inc : Nat) (l : Link) : Link :=
  if l.state = .up ∧ l.exports c then { l with changes := mergeChange c ch.value (ch.state == .valid) inc l.changes } else l

/-- R110: a snapshot entry of channel `c`. -/
def snapshotEntry (c : ChannelId) (ch : Channel) : ChangeEntry := ⟨c, ch.value, ch.state == .valid, 0⟩

/-- R110: the snapshot entries of the channels of a set, ascending. -/
def State.snapshot (set : ChannelSet) (s : State) : List ChangeEntry :=
  (allChannels.filter fun c : ChannelId => set.getLsbD c).map fun c => snapshotEntry c (s.chan c)

/-! ### Offers -/

/-- R8: the offer of a change of channel `c` reaches the line bank, the link engines and the event unit. -/
def State.offer (c : ChannelId) (inc : Nat) (s : State) : State :=
  State.offerEvents c inc
    { s with
      lines := tabulate fun n => (s.lineAt n).takeOffer s.chan c
      links := tabulate fun k => (s.linkAt k).takeOffer c (s.chan c) inc }

/-- R6: state, value and edges of channel `c` take an update. -/
def State.writeChan (c : ChannelId) (st : Validity) (v : Bool) (inc : Nat) (s : State) : State :=
  s.setChan c { s.chan c with state := st, value := v, edges := (s.chan c).edges + BitVec.ofNat 16 inc }

/-- R7: whether an update of record `ch` is a channel change. -/
def Channel.changes (st : Validity) (v : Bool) (inc : Nat) (ch : Channel) : Bool :=
  ch.state != st || ch.value != v || 0 < inc

/-- R6, R7, R8: a consequent update of a combiner's channel: written, and offered to every consumer if it is a channel change.
"It concerns no combiner and causes no further evaluation" (R49): DEDUCED, safe (log 14). -/
def State.changeConsequent (c : ChannelId) (st : Validity) (v : Bool) (inc : Nat) (s : State) : State :=
  let t := s.writeChan c st v inc
  if (s.chan c).changes st v inc then t.offer c inc else t

/-- R48: after an evaluation of combiner `m`, whose record before it was `before`, its bound channel is updated when the output
value or the output state differs. -/
def State.giveCombinerUpdate (m : CombinerId) (before : Combiner) (s : State) : State :=
  let after := s.comb m
  if after.outValue = before.outValue ∧ after.outState = before.outState then s
  else
    match s.boundTo (.combiner m) with
    | none => s
    | some c => s.changeConsequent c after.outState after.outValue (if after.outValue = before.outValue then 0 else 1)

/-- R47: every combiner with member `c` is evaluated. -/
def State.evaluateCombiners (c : ChannelId) (s : State) : State :=
  { s with combiners := tabulate fun m => (s.comb m).takeOffer s.chan c }

/-- R47, R49: the combiner bank takes the offer of a change of channel `c`: the evaluations, then the updates they lead to in
ascending combiner number, each offered to every consumer before the next is given. -/
def State.offerCombiners (c : ChannelId) (s : State) : State :=
  allCombiners.foldl (fun t m => t.giveCombinerUpdate m (s.comb m)) (s.evaluateCombiners c)

/-- R6 to R9: an update of channel `c` is written, and if it is a channel change it is offered to every consumer, and then the
consequent changes of the combiners' channels are made. -/
def State.change (c : ChannelId) (st : Validity) (v : Bool) (inc : Nat) (s : State) : State :=
  let t := s.writeChan c st v inc
  if (s.chan c).changes st v inc then (t.offer c inc).offerCombiners c else t

/-- R6: an update from source `src` is applied when `src` is the channel's source, and otherwise makes no change and no offer. -/
def State.update (src : ChannelSource) (c : ChannelId) (st : Validity) (v : Bool) (inc : Nat) (s : State) : State :=
  if (s.chan c).source = src then s.change c st v inc else s

/-- An update from source `src` to the channel it sources, if any; `inc` may depend on the value before. -/
def State.updateBound (src : ChannelSource) (st : Validity) (v : Bool) (inc : Bool → Nat) (s : State) : State :=
  match s.boundTo src with
  | none => s
  | some c => s.update src c st v (inc (s.chan c).value)

/-- The increment that counts one edge where the value moves (R13, R17, R22, R37, R116). -/
def edgeIf (new old : Bool) : Nat := if new = old then 0 else 1

end Sys2Proof.Machine
end

