-- ==== Sys2Proof/Machine/Remote.lean ====
section
/-! DEFINITION. The remote request table (07_remote_requests.md): tags, entry states, answers, timeouts, resolution when a link leaves UP. -/

namespace Sys2Proof.Machine

/-- R124: an entry whose RREQ has been built in the present session and whose RRES has not been taken. -/
def RemoteEntry.awaiting (e : RemoteEntry) : Bool :=
  match e.state with
  | .queued => false
  | .sent => true
  | .done => e.orphanMark
  | .orphan => true

/-- R125: the first candidate from `cand` on, wrapping, that no entry holds; at most `fuel` are skipped. -/
def nextFreeTag (used : List Byte) : Nat → Byte → Byte
  | 0, cand => cand
  | fuel + 1, cand => if cand ∈ used then nextFreeTag used fuel (cand + 1) else cand

/-- R125: the tag of the next accepted entry. -/
def RemoteTable.freshTag (t : RemoteTable) : Byte :=
  nextFreeTag (t.entries.map RemoteEntry.tag) t.entries.length t.nextTag

/-- R126: an accepted entry, at the tail of the acceptance order; the tag counter moves past its tag (R125). -/
def RemoteTable.accept (k : LinkId) (timeout kind : Byte) (body : List Byte) (t : RemoteTable) : RemoteTable :=
  { t with
    entries := t.entries ++
      [{ tag := t.freshTag, link := k, kind := kind, body := body, timeout := timeout, state := .queued, orphanMark := false,
         status := 0, data := [], timer := some (ofTenMs timeout) }]
    nextTag := t.freshTag + 1 }

/-- Change the entries that hold a tag (R124: at most one does). -/
def RemoteTable.modEntry (tag : Byte) (f : RemoteEntry → RemoteEntry) (t : RemoteTable) : RemoteTable :=
  { t with entries := t.entries.map fun e => if e.tag = tag then f e else e }

/-- The entry that holds a tag is freed. -/
def RemoteTable.free (tag : Byte) (t : RemoteTable) : RemoteTable :=
  { t with entries := t.entries.filter fun e => e.tag != tag }

/-- R130, R131, R70: an entry becomes DONE with an outcome; its timer stops. -/
def RemoteEntry.finish (status : Byte) (data : List Byte) (mark : Bool) (e : RemoteEntry) : RemoteEntry :=
  { e with state := .done, status := status, data := data, orphanMark := mark, timer := none }

/-- R130: an entry becomes DONE and joins the tail of the done order. -/
def RemoteTable.finish (tag status : Byte) (data : List Byte) (mark : Bool) (t : RemoteTable) : RemoteTable :=
  { t.modEntry tag (RemoteEntry.finish status data mark) with doneOrder := t.doneOrder ++ [tag] }

/-- R128: the entry of link `k` whose RREQ may be built, as far as the table decides it. -/
def RemoteTable.mayLeave (k : LinkId) (t : RemoteTable) : Option RemoteEntry :=
  if t.entries.any fun e => e.link == k && e.awaiting then none
  else t.entries.find? fun e => e.link == k && e.state == .queued

/-- R128: the build of an RREQ makes its entry SENT. -/
def RemoteTable.markSent (tag : Byte) (t : RemoteTable) : RemoteTable := t.modEntry tag fun e => { e with state := .sent }

/-- R70: whether leaving UP of link `k` ends an entry with LINK_DOWN. -/
def RemoteEntry.endsWith (k : LinkId) (e : RemoteEntry) : Bool := e.link == k && (e.state == .queued || e.state == .sent)

/-- R70: what leaving UP of link `k` makes of an entry: QUEUED and SENT become DONE with LINK_DOWN, a DONE entry loses its
orphan mark. -/
def RemoteEntry.linkDown (k : LinkId) (e : RemoteEntry) : RemoteEntry :=
  if e.endsWith k then e.finish Status.linkDown.code [] false
  else if e.link = k ∧ e.state = .done then { e with orphanMark := false }
  else e

/-- R70: leaving UP resolves the entries of link `k`, in acceptance order, after the entries already DONE; ORPHAN entries are
freed. -/
def RemoteTable.linkDown (k : LinkId) (t : RemoteTable) : RemoteTable :=
  { t with
    entries := (t.entries.filter fun e => !(e.link == k && e.state == .orphan)).map (RemoteEntry.linkDown k)
    doneOrder := t.doneOrder ++ (t.entries.filter fun e => e.endsWith k).map RemoteEntry.tag }

/-- R132: a late answer to an entry: a DONE entry loses its orphan mark, an ORPHAN is freed; the late count increases. -/
def RemoteTable.lateAnswer (e : RemoteEntry) (t : RemoteTable) : RemoteTable :=
  let t := { t with lateCount := satAdd t.lateCount 1 }
  if e.state = .done then t.modEntry e.tag fun e => { e with orphanMark := false } else t.free e.tag

/-- R135: the beginning of a remote result: the entry leaves the done order, and becomes ORPHAN or is freed. -/
def RemoteTable.deliver (e : RemoteEntry) (rest : List Byte) (t : RemoteTable) : RemoteTable :=
  let t := { t with doneOrder := rest }
  if e.orphanMark then
    t.modEntry e.tag fun e => { e with state := .orphan, orphanMark := false, status := 0, data := [] }
  else t.free e.tag

/-- The entry that holds a tag. -/
def RemoteTable.entry? (tag : Byte) (t : RemoteTable) : Option RemoteEntry := t.entries.find? fun e => e.tag == tag

/-- R130: the entry that holds an RRES's tag, names its link and holds its inner kind. -/
def RemoteTable.match? (k : LinkId) (tag kind : Byte) (t : RemoteTable) : Option RemoteEntry :=
  t.entries.find? fun e => e.tag == tag && e.link == k && e.kind == kind

/-- R154: the number of entries that are DONE. -/
def RemoteTable.doneCount (t : RemoteTable) : Nat := t.entries.countP fun e => e.state == .done

/-- R101: link `k` counts a stray and raises LINK_STRAY_k (R117, R133, R138). -/
def State.stray (k : LinkId) (s : State) : State :=
  (s.modLink k fun l => { l with counters := { l.counters with strayEntries := satAdd l.counters.strayEntries 1 } }).raise
    (.linkStray k) 0

/-- R130, R132, R133: an accepted RRES is matched against the table. -/
def State.takeRres (k : LinkId) (tag kind status : Byte) (data : List Byte) (s : State) : State :=
  match s.remote.match? k tag kind with
  | none => s.stray k
  | some e =>
    match e.state with
    | .sent => s.modRemote (RemoteTable.finish tag status data false)
    | .queued => s.stray k
    | .done => if e.orphanMark then (s.modRemote (RemoteTable.lateAnswer e)).raise .lateReply 0 else s.stray k
    | .orphan => (s.modRemote (RemoteTable.lateAnswer e)).raise .lateReply 0

/-- R138: an accepted RREQ is offered to the inbound slot. -/
def State.takeRreq (k : LinkId) (tag kind : Byte) (body : List Byte) (s : State) : State :=
  match (s.linkAt k).slot with
  | .empty => s.modLink k fun l => { l with slot := .waiting tag kind body }
  | .waiting _ _ _ => s.stray k
  | .replied _ _ _ _ => s.stray k

/-- R127: the timer of the entry that holds a tag. -/
def State.entryTimer (tag : Byte) (s : State) : Timer :=
  match s.remote.entry? tag with
  | some e => e.timer
  | none => none

/-- R131: the timer of an entry expires: DONE with TIMEOUT, with the orphan mark if the entry was SENT. -/
def State.entryTimeout (tag : Byte) (s : State) : State :=
  match s.remote.entry? tag with
  | none => s
  | some e =>
    (s.modRemote (RemoteTable.finish tag Status.timeout.code [] (e.state == .sent))).raise .remoteTimeout 0

end Sys2Proof.Machine
end

