-- ==== Sys2Proof/Machine/Sessions.lean ====
section
/-! DEFINITION. The link sessions (04_link_sessions.md): entry into SEEKING, UP and FAULT, leaving UP and its consequences, and the HELLO. -/

namespace Sys2Proof.Machine

/-! ### Transitions of one link record -/

/-- Every timer of the session stops, and nothing is owed or due: what a change of state leaves before the new state starts its
own (R57, R58, R65). -/
def Link.stopSession (l : Link) : Link :=
  { l with
    helloTimer := none
    keepaliveTimer := none
    silenceTimer := none
    holdOffTimer := none
    helloOwed := false
    keepaliveDue := false }

/-- R58: entry into SEEKING. -/
def Link.toSeeking (l : Link) : Link :=
  { l.stopSession with
    state := .seeking
    session := l.session + 1
    seen := false
    peerNode := none
    peerSession := 0
    peerWindow := 0
    helloOwed := true
    helloTimer := some Config.helloTime }

/-- R75: entry into OFF. -/
def Link.toOff (l : Link) : Link := { l.stopSession with state := .off }

/-- R71 steps 1, 3, 4: entry into FAULT. -/
def Link.toFault (cause : FaultCause) (l : Link) : Link :=
  { l.stopSession with state := .fault, lastFault := cause, holdOffTimer := some Config.holdOffTime }

/-- R68: leaving UP clears the transport state of the link. The sequence numbers, counters, export set, configuration and policy
are kept. -/
def Link.clearTransport (l : Link) : Link :=
  { l.stopSession with
    queue := []
    retransmitTimer := none
    retryCount := 0
    resendPoint := none
    changes := []
    ackOwed := false
    ackDue := false
    ackTimer := none }

/-- R63 steps 1 to 5: entry into UP, with the snapshot entries of the export set. -/
def Link.toUp (snap : List ChangeEntry) (l : Link) : Link :=
  { l.stopSession with
    state := .up
    nextSend := 0
    nextExpected := 0
    silenceTimer := some (ofTenMs l.config.silence)
    keepaliveTimer := some (ofMs l.config.keepalive)
    helloOwed := true
    changes := l.changes ++ snap }

/-! ### The channels that depend on a link -/

/-- R69 step 1: a channel with source LINK k becomes STALE, with value and edges kept. -/
def State.staleImport (k : LinkId) (s : State) (c : ChannelId) : State :=
  s.update (.link k) c .stale (s.chan c).value 0

/-- R69 step 1: every channel with source LINK k, in ascending channel order. -/
def State.staleImports (k : LinkId) (s : State) : State := allChannels.foldl (State.staleImport k) s

/-- R22, R63 step 6, R69 step 2: the link-status channel of link `k` is updated to VALID with the session state's value. -/
def State.linkStatus (k : LinkId) (up : Bool) (s : State) : State := s.updateBound (.linkStat k) .valid up (edgeIf up)

/-! ### Events of the session -/

/-- R67: link `k` leaves UP: the state takes its new value by `move`, then the consequences of R68, R69 and R70. The flag of the
cause is the caller's. -/
def State.leaveUp (k : LinkId) (move : Link → Link) (s : State) : State :=
  let s := s.modLink k fun l => move l.clearTransport
  let s := (s.staleImports k).linkStatus k false
  (s.modRemote (RemoteTable.linkDown k)).modLink k fun l => { l with slot := .empty }

/-- R71: link `k` enters FAULT. -/
def State.enterFault (k : LinkId) (cause : FaultCause) (s : State) : State :=
  let t := if (s.linkAt k).state = .up then s.leaveUp k (Link.toFault cause) else s.modLink k (Link.toFault cause)
  t.raise (.linkFault k) cause.code

/-- R63: link `k` enters UP. -/
def State.enterUp (k : LinkId) (s : State) : State :=
  let t := s.modLink k (Link.toUp (s.snapshot (s.linkAt k).exported))
  (t.linkStatus k true).raise (.linkUp k) ((s.linkAt k).peerNode.getD 0)

/-! ### The HELLO -/

/-- The fields of a HELLO's body (R60, R198). -/
structure Hello where
  version : Byte
  node : Byte
  session : Byte
  seen : Byte
  echo : Byte
  window : Byte
deriving DecidableEq, Repr

/-- R198: the HELLO that a body of six bytes gives. -/
def helloOf : List Byte → Option Hello
  | [version, node, session, seen, echo, window] => some ⟨version, node, session, seen, echo, window⟩
  | _ => none

/-- R60: the body of the HELLO that a link sends, filled at the moment it begins. -/
def Link.helloBody (node : Byte) (l : Link) : List Byte :=
  if l.state = .up then [Config.helloVersion, node, l.session, 2, l.peerSession, l.config.window]
  else [Config.helloVersion, node, l.session, byteOfBool l.seen, if l.seen then l.peerSession else 0, l.config.window]

/-- R61 step 1, R64: a sender node that no hub has. -/
def Hello.nodeless (h : Hello) : Bool := h.node == 0 || h.node == 255

/-- R61 step 2: the peer is recorded. -/
def Link.recordPeer (h : Hello) (l : Link) : Link :=
  { l with peerNode := some h.node, peerSession := h.session, peerWindow := h.window, seen := true }

/-- R61: a CRC-good HELLO received in SEEKING. -/
def State.helloInSeeking (k : LinkId) (h : Hello) (s : State) : State :=
  if h.nodeless then s
  else
    let t := s.modLink k (Link.recordPeer h)
    if h.version ≠ Config.helloVersion then t.enterFault k .version
    else if h.node = s.node then t.enterFault k .selfLoop
    else if h.seen ≠ 0 ∧ h.echo = (s.linkAt k).session then t.enterUp k
    else t

/-- R64: whether a HELLO received in UP comes from the present session. -/
def Link.presentSession (h : Hello) (l : Link) : Bool :=
  h.version == Config.helloVersion && l.peerNode == some h.node && h.session == l.peerSession && h.seen != 0
    && h.echo == l.session

/-- R64: a CRC-good HELLO received in UP, after its ack field has been taken. -/
def State.helloInUp (k : LinkId) (h : Hello) (s : State) : State :=
  if (s.linkAt k).presentSession h then
    if h.seen = 2 then s else s.modLink k fun l => { l with helloOwed := true }
  else if h.nodeless then s
  else ((s.leaveUp k Link.toSeeking).raise (.peerRestart k) 0).helloInSeeking k h

end Sys2Proof.Machine
end

