-- ==== Sys2Proof/Machine/Transport.lean ====
section
/-! DEFINITION. Reliable delivery (05_reliable_delivery.md): the receive framer, the ack field, the classification of data frames, what is handed on, the retransmit timer, and the frames a link begins. -/

namespace Sys2Proof.Machine

/-! ### Sequence numbers -/

/-- R83: the distance from one sequence number to another. -/
def distance (x y : Byte) : Nat := (y - x).toNat

/-- R81: the oldest unacknowledged number. -/
def Link.oldest (l : Link) : Byte :=
  match l.queue with
  | [] => l.nextSend
  | r :: _ => r.seq

/-! ### The ack field -/

/-- R87: what an ack that removes records does beside removing them. -/
def Link.afterRemoval (removed : Nat) (oldest : Byte) (l : Link) : Link :=
  match l.queue with
  | [] => { l with retryCount := 0, retransmitTimer := none, resendPoint := none }
  | r :: _ =>
    { l with
      retryCount := 0
      retransmitTimer := some (ofMs l.config.retransmit)
      resendPoint := l.resendPoint.map fun p => if distance oldest p < removed then r.seq else p }

/-- R86, R87: the ack field `a` of a frame received in UP. -/
def Link.takeAck (a : Byte) (l : Link) : Link :=
  let o := l.oldest
  let d := distance o a
  if d ≤ distance o l.nextSend then
    if d = 0 then l else Link.afterRemoval d o { l with queue := l.queue.drop d }
  else { l with counters := { l.counters with badAcks := satAdd l.counters.badAcks 1 } }

/-- R90: an ack becomes owed; the ack timer starts if it is not running. -/
def Link.oweAck (l : Link) : Link := { l with ackOwed := true, ackTimer := some (l.ackTimer.getD Config.ackTime) }

/-! ### Received frames -/

/-- R116: the edge increment of an applied entry. -/
def entryIncrement (e : ChangeEntry) (before : Bool) : Nat := if e.edges = 0 then edgeIf e.value before else e.edges

/-- R115, R117: an entry of an accepted CHANGE frame is applied, or is stray. -/
def State.applyEntry (k : LinkId) (s : State) (e : ChangeEntry) : State :=
  if (s.chan e.channel).source = .link k then
    s.update (.link k) e.channel (if e.valid then .valid else .stale) e.value (entryIncrement e (s.chan e.channel).value)
  else s.stray k

/-- R89: an accepted data frame is handed to its consumer. -/
def State.handOn (k : LinkId) (kind : DataKind) (body : List Byte) (s : State) : State :=
  match kind with
  | .change => (changeEntriesOf body).foldl (State.applyEntry k) s
  | .rreq =>
    match body with
    | tag :: inner :: rest => s.takeRreq k tag inner rest
    | _ => s
  | .rres =>
    match body with
    | tag :: inner :: status :: data => s.takeRres k tag inner status data
    | _ => s

/-- R88, R89: a data frame received in UP, after its ack field has been taken. -/
def State.classify (k : LinkId) (kind : DataKind) (seq : Byte) (body : List Byte) (s : State) : State :=
  let l := s.linkAt k
  if seq = l.nextExpected then
    (s.modLink k fun l => ({ l with nextExpected := l.nextExpected + 1 }).oweAck).handOn k kind body
  else if distance seq l.nextExpected ≤ 8 then
    s.modLink k fun l => Link.oweAck { l with counters := { l.counters with duplicates := satAdd l.counters.duplicates 1 } }
  else
    s.modLink k fun l => Link.oweAck { l with counters := { l.counters with outOfOrder := satAdd l.counters.outOfOrder 1 } }

/-- 11 section 11.4: the data kind that a link kind names. -/
def dataKindOf (kind : Byte) : Option DataKind :=
  match kind.toNat with
  | 3 => some .change
  | 4 => some .rreq
  | 5 => some .rres
  | _ => none

/-- R84 step 2: the received good counter. -/
def Link.countGood (l : Link) : Link :=
  { l with counters := { l.counters with receivedGood := satAdd l.counters.receivedGood 1 } }

/-- R84 step 4 in UP: the frame is handled by its kind. -/
def State.handleInUp (k : LinkId) (f : LinkFrame) (s : State) : State :=
  if f.kind = helloKind then
    match helloOf f.body with
    | some h => s.helloInUp k h
    | none => s
  else
    match dataKindOf f.kind with
    | some kind => s.classify k kind f.seq f.body
    | none => s

/-- R84 step 4 in SEEKING: a HELLO is taken, any other kind is discarded (R62). -/
def State.handleInSeeking (k : LinkId) (f : LinkFrame) (s : State) : State :=
  if f.kind = helloKind then
    match helloOf f.body with
    | some h => s.helloInSeeking k h
    | none => s
  else s

/-- R85: a frame that fails the check. -/
def State.badFrame (k : LinkId) (s : State) : State :=
  (s.modLink k fun l => { l with counters := { l.counters with crcErrors := satAdd l.counters.crcErrors 1 } }).raise (.linkCrc k) 0

/-- R84: a frame is received on link `k`; `good` is whether it passes the check of R85. -/
def State.takeFrame (k : LinkId) (f : LinkFrame) (good : Bool) (s : State) : State :=
  match (s.linkAt k).state with
  | .off => s
  | .fault => s
  | .seeking => if good then (s.modLink k Link.countGood).handleInSeeking k f else s.badFrame k
  | .up =>
    if good then
      (s.modLink k fun l =>
        Link.takeAck f.ack { l.countGood with silenceTimer := some (ofTenMs l.config.silence) }).handleInUp k f
    else s.badFrame k

/-! ### The receive framer -/

/-- R197: hunting resumes over bytes already received: the first start byte among them starts a frame whose header the bytes
after it begin (DEDUCED, log 23). -/
def huntAgain : List Byte → LinkFramer
  | [] => .hunting
  | b :: rest => if b = Config.linkStart then .header rest else huntAgain rest

/-- R197: the framer takes a byte; the second part is what it holds of a completed frame. -/
def LinkFramer.take (b : Byte) : LinkFramer → LinkFramer × Option (List Byte)
  | .hunting => (if b = Config.linkStart then .header [] else .hunting, none)
  | .header got =>
    let got := got ++ [b]
    if got.length < 4 then (.header got, none)
    else if 64 < b.toNat then (huntAgain (got), none)
    else (.body got (b.toNat + 2), none)
  | .body got due => if due ≤ 1 then (.hunting, some (got ++ [b])) else (.body (got ++ [b]) (due - 1), none)

/-- R197: the gap timer runs while the framer is inside a frame, from each byte. -/
def LinkFramer.gap : LinkFramer → Timer
  | .hunting => none
  | .header _ => some Config.linkGapTime
  | .body _ _ => some Config.linkGapTime

/-- R197, R84: a byte arrives on the line of link `k`. -/
def State.linkByte (k : LinkId) (b : Byte) (s : State) : State :=
  let r := (s.linkAt k).framer.take b
  let t := s.modLink k fun l => { l with framer := r.1, gapTimer := r.1.gap }
  match r.2 with
  | none => t
  | some got => t.takeFrame k (receivedFrame got).1 (receivedFrame got).2

/-! ### The retransmit timer -/

/-- R94: the retransmit timer of link `k` expires. -/
def State.retransmitExpiry (k : LinkId) (s : State) : State :=
  let t := s.modLink k fun l =>
    { l with
      counters := { l.counters with timerExpiries := satAdd l.counters.timerExpiries 1 }
      retryCount := l.retryCount + 1 }
  let l := t.linkAt k
  if l.config.maxRetries.toNat < l.retryCount then t.enterFault k .retryLimit
  else t.modLink k fun l => { l with resendPoint := some l.oldest, retransmitTimer := some (ofMs l.config.retransmit) }

/-! ### Frames that begin -/

/-- R82, R98: the ack field of a frame that begins. -/
def Link.ackField (l : Link) : Byte := if l.state = .up then l.nextExpected else 0

/-- R98 steps 1 to 3: a frame begins on the line; in UP it pays an owed ack and restarts the keepalive timer. -/
def Link.begin (kind seq : Byte) (body : List Byte) (l : Link) : Link :=
  let l := { l with line := some (LinkFrame.bytes ⟨kind, seq, l.ackField, body⟩) }
  if l.state = .up then
    { l with
      ackOwed := false
      ackDue := false
      ackTimer := none
      keepaliveTimer := some (ofMs l.config.keepalive)
      keepaliveDue := false }
  else l

/-- R98 step 4: the sent counter. -/
def Link.countSent (l : Link) : Link := { l with counters := { l.counters with sent := satAdd l.counters.sent 1 } }

/-- R98 step 4: the resent counter. -/
def Link.countResent (l : Link) : Link := { l with counters := { l.counters with resent := satAdd l.counters.resent 1 } }

/-- R60, R98: an owed HELLO begins. -/
def Link.sendHello (node : Byte) (l : Link) : Link :=
  (Link.begin helloKind 0 (l.helloBody node) { l with helloOwed := false }).countSent

/-- R99: an ACK begins. -/
def Link.sendAck (l : Link) : Link := (l.begin ackKind 0 []).countSent

/-- R91 steps 2 to 4: the frame record and what its append does. -/
def Link.appendRecord (kind : DataKind) (body : List Byte) (l : Link) : Link :=
  let r : FrameRecord := ⟨l.nextSend, kind, body⟩
  match l.queue with
  | [] =>
    { l with queue := [r], nextSend := l.nextSend + 1, retryCount := 0, retransmitTimer := some (ofMs l.config.retransmit) }
  | q => { l with queue := q ++ [r], nextSend := l.nextSend + 1 }

/-- R91: a new data frame is built and begins. -/
def Link.sendData (kind : DataKind) (body : List Byte) (l : Link) : Link :=
  ((l.appendRecord kind body).begin kind.code l.nextSend body).countSent

/-- R95 step 3: the resend point after the resend of number `p`. -/
def Link.afterResend (p : Byte) (l : Link) : Option Byte := if p + 1 = l.nextSend then none else some (p + 1)

/-- R95: the record at the resend point `p` begins again. -/
def Link.resend (p : Byte) (l : Link) : Link :=
  match l.queue.find? fun r => r.seq == p with
  | some r => (Link.begin r.kind.code r.seq r.body { l with resendPoint := l.afterResend p }).countResent
  | none => { l with resendPoint := none }

/-- R112: a CHANGE frame takes up to 6 entries from the head of the pending change list. -/
def Link.sendChanges (l : Link) : Link :=
  Link.sendData .change ((l.changes.take Config.changeEntries).flatMap ChangeEntry.bytes)
    { l with changes := l.changes.drop Config.changeEntries }

end Sys2Proof.Machine
end

