-- ==== Sys2Proof/Machine/Arbiters.lean ====
section
/-! DEFINITION. The arbiters (R97, R173) and the frame of every step: an event takes place, and at its completion each free transmitter takes the first frame that is eligible (R187, R97; DEDUCED, log 6). -/

namespace Sys2Proof.Machine

/-! ### The link transmit arbiter -/

/-- R97 ranks 3 to 5 and R91: a new data frame, when the queue holds fewer records than the window; `none` when none is
eligible. -/
def State.sendNewData? (k : LinkId) (s : State) : Option State :=
  let l := s.linkAt k
  if l.config.window.toNat ≤ l.queue.length then none
  else
    match l.slot with
    | .replied tag kind status data =>
      some (s.modLink k fun l => Link.sendData .rres (tag :: kind :: status :: data) { l with slot := .empty })
    | _ =>
      match s.remote.mayLeave k with
      | some e => some ((s.modRemote (RemoteTable.markSent e.tag)).modLink k (Link.sendData .rreq (e.tag :: e.kind :: e.body)))
      | none => if l.changes = [] then none else some (s.modLink k Link.sendChanges)

/-- R97: the transmit arbiter of link `k` makes its choice, if the line is free. -/
def State.linkArbiter (k : LinkId) (s : State) : State :=
  let l := s.linkAt k
  if l.line.isSome then s
  else
    match l.state with
    | .off => s
    | .fault => s
    | .seeking => if l.helloOwed then s.modLink k (Link.sendHello s.node) else s
    | .up =>
      if l.helloOwed then s.modLink k (Link.sendHello s.node)
      else
        match l.resendPoint with
        | some p => s.modLink k (Link.resend p)
        | none =>
          match s.sendNewData? k with
          | some t => t
          | none => if l.ackDue || l.keepaliveDue then s.modLink k Link.sendAck else s

/-! ### The host output arbiter -/

/-- R174: the queued reply begins. -/
def HostPort.beginReply (f : HostFrame) (h : HostPort) : HostPort := { h with queued := none, sending := some f.bytes }

/-- R174, R175: a remote result or a notice begins with the output sequence number. -/
def HostPort.beginReport (kind : Byte) (body : List Byte) (h : HostPort) : HostPort :=
  { h with sending := some (HostFrame.bytes ⟨h.outSeq, kind, body⟩), outSeq := h.outSeq + 1 }

/-- R135: the remote result of the head of the done order begins. A tag of the done order that no entry holds is dropped. -/
def State.beginResult (tag : Byte) (rest : List Byte) (s : State) : State :=
  match s.remote.entry? tag with
  | some e => (s.modRemote (RemoteTable.deliver e rest)).modHost (HostPort.beginReport Config.resultKind e.resultBody)
  | none => s.modRemote fun t => { t with doneOrder := rest }

/-- R182, R186: the notice at the head of the queue begins. -/
def State.beginNotice (n : Notice) (rest : List Notice) (s : State) : State :=
  (s.modEvents (EventUnit.deliver rest)).modHost (HostPort.beginReport Config.noticeKind n.body)

/-- R173: the output arbiter makes its choice, if the transmitter is free. In reset pending it chooses the queued reply and
nothing else. -/
def State.hostArbiter (s : State) : State :=
  if s.host.sending.isSome then s
  else
    match s.host.queued with
    | some f => s.modHost (HostPort.beginReply f)
    | none =>
      if s.executor.resetPending then s
      else
        match s.remote.doneOrder with
        | tag :: rest => s.beginResult tag rest
        | [] =>
          match s.events.notices with
          | n :: rest => s.beginNotice n rest
          | [] => s

/-- R97, R173, R187: the choices at the completion of an event. The arbiters touch different state, so their order is no matter. -/
def State.settle (s : State) : State := allLinks.foldl (fun t k => t.linkArbiter k) s.hostArbiter

/-- One event of the hub: `effect`, then the arbiters' choices. While RESETN is low the hub takes nothing and sends nothing (R158);
an event that does not occur in the present state changes nothing (log 2). -/
def event (occurs : Bool) (effect : State → State) (s : State) : Host.Outcome State Fault Refusal :=
  .next (if s.held || !occurs then s else (effect s).settle)

/-- The expiry of a timer occurs when the timer has run out. It does not occur while the timer is stopped, nor when another event
has started it again first (R28, R66, R72, R90, R96, R163; log 4). -/
def expiry (timer : Timer) (effect : State → State) (s : State) : Host.Outcome State Fault Refusal :=
  event (Timer.ranOut timer) effect s

/-- The hub with no command waiting: a free transmitter takes its first eligible frame, and 0.1 ms passes at every running timer
(DESIGN CHOICE, safe, log 4). In power reset nothing runs (R158). -/
def State.idle (s : State) : State := if s.held then s else s.settle.passTime

end Sys2Proof.Machine
end

