-- ==== Sys2Proof/Machine/HostPort.lean ====
section
/-! DEFINITION. The receive half of the host port (09_the_host_port.md): the framer and the sequence handling. -/

namespace Sys2Proof.Machine

/-- R176: change the counters of the host port. -/
def HostPort.count (f : HostCounters → HostCounters) (h : HostPort) : HostPort := { h with counters := f h.counters }

/-- R162, R163, R165: a framing error: the partial frame is abandoned, counted, and HOST_FRAMING is raised. -/
def State.framingError (s : State) : State :=
  (s.modHost fun h =>
    { h.count (fun n => { n with framingErrors := satAdd n.framingErrors 1 }) with framer := .hunt, gapTimer := none }).raise
    .hostFraming 0

/-- R164: a frame whose CRC does not match. -/
def State.hostCrcError (s : State) : State :=
  (s.modHost (HostPort.count fun n => { n with crcErrors := satAdd n.crcErrors 1 })).raise .hostCrc 0

/-- R168: a good frame that completes while a request is outstanding. -/
def State.hostOverrun (s : State) : State :=
  (s.modHost (HostPort.count fun n => { n with overruns := satAdd n.overruns 1 })).raise .hostOverrun 0

/-- R169: the reply that answers a frame of this SEQ as a retry, if it is one. -/
def HostPort.retryReply (seq : Byte) (h : HostPort) : Option HostFrame := if h.lastSeq = some seq then h.cache else none

/-- R169: a retry is answered from the cache; a reply already queued is the same one, and stays the one copy. -/
def HostPort.answerRetry (reply : HostFrame) (h : HostPort) : HostPort :=
  { h.count (fun n => { n with retries := satAdd n.retries 1 }) with queued := some reply }

/-- R170: whether an accepted SEQ follows a gap: the last accepted SEQ is `s`, and it is neither `s + 1` nor `s` (log 22). -/
def HostPort.gapBefore (seq : Byte) (h : HostPort) : Bool :=
  match h.lastSeq with
  | none => false
  | some last => seq != last + 1 && seq != last

/-- R170 steps 1 to 3: a request is accepted. -/
def HostPort.accept (f : HostFrame) (h : HostPort) : HostPort :=
  { h with lastSeq := some f.seq, cache := none, outstanding := true, accepted := some f }

/-- R170: a gap is counted and HOST_SEQ_GAP is raised. -/
def State.seqGap (s : State) : State :=
  (s.modHost (HostPort.count fun n => { n with sequenceGaps := satAdd n.sequenceGaps 1 })).raise .hostSeqGap 0

/-- R168 to R170: sequence handling of a good frame. -/
def State.goodHostFrame (f : HostFrame) (s : State) : State :=
  if s.host.outstanding then s.hostOverrun
  else
    match s.host.retryReply f.seq with
    | some reply => s.modHost (HostPort.answerRetry reply)
    | none => (if s.host.gapBefore f.seq then s.seqGap else s).modHost (HostPort.accept f)

/-- R164: a frame is complete: `len`, and the bytes after it: SEQ, KIND, BODY and the two CRC bytes. -/
def State.hostFrameComplete (len : Byte) (got : List Byte) (s : State) : State :=
  match got with
  | seq :: kind :: rest =>
    let body := rest.take (len.toNat - 1)
    if rest.drop (len.toNat - 1) = bytesOf16 (crc16 (len :: seq :: kind :: body)) then s.goodHostFrame ⟨seq, kind, body⟩
    else s.hostCrcError
  | _ => s.hostCrcError

/-- R162: the bytes that LEN may be, 1 to 64. -/
def isLength (b : Byte) : Bool := 1 ≤ b.toNat && b.toNat ≤ 64

/-- R162: a byte taken in HUNT. -/
def HostPort.hunt (b : Byte) (h : HostPort) : HostPort :=
  if b = Config.sync then { h with framer := .length, gapTimer := some Config.hostGapTime } else h

/-- R162: a byte is received on HRXD and taken according to the framer's state. -/
def State.hostByte (b : Byte) (s : State) : State :=
  match s.host.framer with
  | .hunt => s.modHost (HostPort.hunt b)
  | .length =>
    if !isLength b then s.framingError.modHost (HostPort.hunt b)
    else s.modHost fun h => { h with framer := .collect b [] (b.toNat + 3), gapTimer := some Config.hostGapTime }
  | .collect len got due =>
    if due ≤ 1 then (s.modHost fun h => { h with framer := .hunt, gapTimer := none }).hostFrameComplete len (got ++ [b])
    else s.modHost fun h => { h with framer := .collect len (got ++ [b]) (due - 1), gapTimer := some Config.hostGapTime }
  | .discard => s

/-- R165: whether the framer is inside a frame. -/
def HostFramer.inFrame : HostFramer → Bool
  | .hunt => false
  | .length => true
  | .collect _ _ _ => true
  | .discard => false

/-- R157: the soft reset. Every block takes its reset values; the UART rate is kept. -/
def State.softReset (s : State) : State := State.resetWith s.host.rate [.start .soft] s.held s.pending

/-- R173, R157: a frame ends on the host transmitter. In reset pending with no reply queued it was the RESET reply, and the soft
reset takes place (DEDUCED, log 19). -/
def State.hostTxEnd (s : State) : State :=
  let t := s.modHost fun h => { h with sending := none }
  if s.executor.resetPending ∧ s.host.queued = none then t.softReset else t

end Sys2Proof.Machine
end

