-- ==== Sys2Proof/Machine/Execution.lean ====
section
/-! DEFINITION. The request executor (08_request_execution.md): grants, the validation order, the policy check, replies. -/

namespace Sys2Proof.Machine

/-! ### Grants (R144, R145) -/

/-- R144: the source that follows in the fixed order. -/
def Source.next : Source → Source
  | .host => .slot 0
  | .slot k => if h : k.val + 1 < Config.linkCount then .slot ⟨k.val + 1, h⟩ else .host

/-- R145: the five sources in the order of examination from the one the pointer names. -/
def Source.fromHere (p : Source) : List Source := [p, p.next, p.next.next, p.next.next.next, p.next.next.next.next]

/-- The request that a ready source holds (R144, R171, R137), and none where the source is not ready. -/
def State.readyRequest (s : State) : Source → Option HostFrame
  | .host => if s.host.queued = none then s.host.accepted else none
  | .slot k =>
    match (s.linkAt k).slot with
    | .waiting _ kind body => some ⟨0, kind, body⟩
    | _ => none

/-- A grant: the source and the request it holds. The SEQ is the host's own; a slot's request has none. -/
structure Grant where
  src : Source
  req : HostFrame
deriving DecidableEq, Repr

/-- R145, R156: the grant that the executor makes next: the first ready source from the pointer on; none in reset pending. -/
def State.nextGrant (s : State) : Option Grant :=
  if s.executor.resetPending then none
  else s.executor.pointer.fromHere.findSome? fun src => (s.readyRequest src).map (Grant.mk src)

/-- R145 step 3, R171: the pointer moves past the granted source, and the host port's accepted request is taken. -/
def State.takeGrant (g : Grant) (s : State) : State :=
  let t := s.modExecutor fun e => { e with pointer := g.src.next }
  match g.src with
  | .host => t.modHost fun h => { h with accepted := none }
  | .slot _ => t

/-! ### The policy check (R141, R142, R150) -/

/-- R141: the policies are nested. -/
def Policy.rank : Policy → Nat
  | .none => 0
  | .observe => 1
  | .operate => 2
  | .full => 3

/-- R142: a clear flag as sent: 0 is "without clear", every other value "with clear". -/
def clearPolicy : Option Byte → Policy
  | some 0 => .observe
  | _ => .operate

/-- R141, R142: the lowest policy under which a peer on link `arrival` may send a request; `none` where no policy allows it. -/
def lowestPolicy (arrival : LinkId) (kind : Byte) (body : List Byte) : Option Policy :=
  match kind.toNat with
  | 0x01 | 0x02 | 0x09 | 0x0C | 0x0E | 0x12 | 0x16 => some .observe
  | 0x14 => some (clearPolicy body[1]?)
  | 0x1A => some (clearPolicy body[0]?)
  | 0x07 | 0x0B | 0x17 => some .operate
  | 0x04 | 0x05 | 0x06 | 0x08 | 0x0A | 0x0D | 0x10 | 0x13 | 0x18 | 0x19 => some .full
  | 0x0F => if body[0]? = some (byteOfNat arrival) then none else some .full
  | _ => none

/-- R150: whether a request passes the policy check: always from the host. -/
def State.permits (s : State) (g : Grant) : Bool :=
  match g.src with
  | .host => true
  | .slot k =>
    match lowestPolicy k g.req.kind g.req.body with
    | some p => p.rank ≤ (s.linkAt k).policy.rank
    | none => false

/-! ### Execution (R147, R148, R151) -/

/-- The rule that owns a request: from the body and the state, the state with the effect made and the reply data, or the status
of the first of its own checks that fails. -/
abbrev RequestRule := List Byte → State → Except Status (State × List Byte)

/-- R148: the checks in their order, then the rule's own. -/
def judge (g : Grant) (rule : RequestRule) (s : State) : Except Status (State × List Byte) :=
  if isRequestKind g.req.kind && !lengthFits g.req.kind g.req.body then .error .badLength
  else if !isRequestKind g.req.kind then .error .unknownKind
  else if !s.permits g then .error .denied
  else rule g.req.body s

/-- R172: the KIND of the reply to a request. -/
def replyKind (kind : Byte) : Byte := if isRequestKind kind then kind + 0x80 else 0x80

/-- R172: the reply frame to a request. -/
def replyFrame (req : HostFrame) (status : Status) (data : List Byte) : HostFrame :=
  ⟨req.seq, replyKind req.kind, status.code :: data⟩

/-- R172: the reply to a host request is cached and queued, and the request is no longer outstanding. -/
def HostPort.queueReply (f : HostFrame) (h : HostPort) : HostPort :=
  { h with cache := some f, queued := some f, outstanding := false }

/-- R139: the slot of a remote request becomes REPLIED. -/
def Slot.reply (status : Byte) (data : List Byte) : Slot → Slot
  | .waiting tag kind _ => .replied tag kind status data
  | other => other

/-- R147: the reply goes to the origin. -/
def State.answer (g : Grant) (status : Status) (data : List Byte) (s : State) : State :=
  match g.src with
  | .host => s.modHost (HostPort.queueReply (replyFrame g.req status data))
  | .slot k => s.modLink k fun l => { l with slot := l.slot.reply status.code data }

/-- R145, R147, R151: a granted request is executed in one event. A refused request has no effect but the grant and its reply. -/
def State.execute (g : Grant) (rule : RequestRule) (s : State) : State :=
  let t := s.takeGrant g
  match judge g rule t with
  | .ok (u, data) => u.answer g .ok data
  | .error status => t.answer g status []

/-- A request row: the executor makes its next grant, if the granted request is one that the row serves (log 1). -/
def request (serves : HostFrame → Bool) (rule : RequestRule) (s : State) : Host.Outcome State Fault Refusal :=
  match s.nextGrant with
  | some g => event (serves g.req) (State.execute g rule) s
  | none => .next s

/-- The requests of one kind. -/
def ofKind (kind : Byte) (req : HostFrame) : Bool := req.kind == kind

/-- The CHANNEL_SET requests that a row of one action serves: those of that action, and those whose body names no action, which
every row of the kind refuses alike (log 3). -/
def ofSetAction (a : SetAction) (req : HostFrame) : Bool :=
  req.kind == 0x07 &&
    (match req.body with
     | [_, b] => (setActionOf b).getD a == a
     | _ => true)

/-- The LINK_CONTROL requests that a row of one action serves, likewise (log 3). -/
def ofControlAction (a : ControlAction) (req : HostFrame) : Bool :=
  req.kind == 0x0F &&
    (match req.body with
     | [_, b] => (controlActionOf b).getD a == a
     | _ => true)

end Sys2Proof.Machine
end

