-- ==== Sys2Proof/Machine/LineEvents.lean ====
section
/-! DEFINITION. The events of the line bank (02_local_lines.md section 2.2): samples and debounce expiries. -/

namespace Sys2Proof.Machine

/-- R30: the raw level is accepted. -/
def Line.accept (l : Line) : Line := { l with debounced := l.raw, edges := l.edges + 1, interval := none }

/-- R30 step 3: the value that a line gives its channel. -/
def Line.value (l : Line) : Bool := l.debounced ^^ l.inverted

/-- R30: line `n` accepts its raw level and, if it is bound, updates its channel with increment 1. -/
def State.acceptEdge (n : LineId) (s : State) : State :=
  let l := (s.lineAt n).accept
  (s.setLine n l).updateBound (.line n) .valid l.value fun _ => 1

/-- R27 to R29: a sample of a line's pin, without the acceptance of R29. -/
def Line.sample (level : Bool) (l : Line) : Line :=
  let l := { l with raw := level }
  if l.mode = .input then
    if level = l.debounced then { l with interval := none }
    else if l.debounce = 0 then l
    else { l with interval := some (l.interval.getD l.debounce.toNat) }
  else { l with debounced := level }

/-- R29: whether a sample is accepted in its own event. -/
def Line.acceptsAtOnce (l : Line) : Bool := l.mode == .input && l.debounce == 0 && l.raw != l.debounced

/-- R27 to R30: the pin of line `n` is sampled. -/
def State.sampleLine (n : LineId) (level : Bool) (s : State) : State :=
  let t := s.setLine n ((s.lineAt n).sample level)
  if (t.lineAt n).acceptsAtOnce then t.acceptEdge n else t

/-- LINE_SAMPLE (R27 to R30). -/
def execLineSample (n : LineId) (level : Bool) (s : State) : Host.Outcome State Fault Refusal :=
  event true (State.sampleLine n level) s

/-- DEBOUNCE_EXPIRY (R28, R30). -/
def execDebounceExpiry (n : LineId) (s : State) : Host.Outcome State Fault Refusal :=
  expiry (s.lineAt n).interval (State.acceptEdge n) s

end Sys2Proof.Machine
end

