-- ==== Sys2Proof/Machine/ChannelRequests.lean ====
section
/-! DEFINITION. The channel requests (01_channels_and_the_channel_table.md): bind, unbind, set, watch, read. -/

namespace Sys2Proof.Machine

/-- R11, R5: the sources that source at most one channel. -/
def ChannelSource.exclusive : ChannelSource → Bool
  | .line _ => true
  | .combiner _ => true
  | .linkStat _ => true
  | _ => false

/-- R11 check 4: the source is a line that is not in INPUT mode. -/
def State.lineNotInput (s : State) : ChannelSource → Bool
  | .line n => (s.lineAt n).mode != .input
  | _ => false

/-- R11 checks 5 and 6, R12: the binding would let the channel feed its own source. -/
def State.bindLoops (s : State) (c : ChannelId) : ChannelSource → Bool
  | .link k => (s.linkAt k).exports c
  | .combiner _ => allCombiners.any fun m => (s.comb m).hasMember c
  | _ => false

/-- R11 checks 2 to 6. -/
def State.bindRefusal (c : ChannelId) (src : ChannelSource) (s : State) : Option Status :=
  if (s.chan c).source ≠ .none then some .conflict
  else if src.exclusive && (s.boundTo src).isSome then some .conflict
  else if s.lineNotInput src then some .wrongState
  else if s.bindLoops c src then some .loop
  else none

/-- R13: state and value after a binding, for a channel whose held value is `old`. -/
def State.initialReading (s : State) (old : Bool) : ChannelSource → Validity × Bool
  | .line n => (.valid, (s.lineAt n).value)
  | .combiner m => ((s.comb m).outState, (s.comb m).outValue)
  | .linkStat k => (.valid, (s.linkAt k).state == .up)
  | _ => (.unknown, old)

/-- R11, R13: channel `c` is bound to `src` and takes its initial state, which is offered if it is a channel change. -/
def State.bind (c : ChannelId) (src : ChannelSource) (s : State) : State :=
  let r := s.initialReading (s.chan c).value src
  (s.setChan c { s.chan c with source := src }).change c r.1 r.2 (edgeIf r.2 (s.chan c).value)

/-- R11: CHANNEL_BIND. -/
def channelBindRule : RequestRule
  | [c, kind, index], s =>
    match channelOf c, sourceOf kind index with
    | some c, some src =>
      match s.bindRefusal c src with
      | some status => .error status
      | none => .ok (s.bind c src, [])
    | _, _ => .error .badArgument
  | _, _ => .error .badLength

/-- CHANNEL_BIND (R11 to R14). -/
def execChannelBind (s : State) : Host.Outcome State Fault Refusal := request (ofKind 0x05) channelBindRule s

/-- R15: channel `c` is released from its source. -/
def State.unbind (c : ChannelId) (s : State) : State :=
  if (s.chan c).source = .none then s
  else (s.setChan c { s.chan c with source := .none }).change c .unknown (s.chan c).value 0

/-- R15: CHANNEL_UNBIND. -/
def channelUnbindRule : RequestRule
  | [c], s =>
    match channelOf c with
    | some c => .ok (s.unbind c, [])
    | none => .error .badArgument
  | _, _ => .error .badLength

/-- CHANNEL_UNBIND (R15). -/
def execChannelUnbind (s : State) : Host.Outcome State Fault Refusal := request (ofKind 0x06) channelUnbindRule s

/-- R16: the checks of CHANNEL_SET, and the effect of one action. -/
def channelSetRule (effect : ChannelId → State → State) : RequestRule
  | [c, a], s =>
    match channelOf c, setActionOf a with
    | some c, some _ => if (s.chan c).source = .host then .ok (effect c s, []) else .error .wrongState
    | _, _ => .error .badArgument
  | _, _ => .error .badLength

/-- R17: DRIVE_0 and DRIVE_1. -/
def State.driveChannel (v : Bool) (c : ChannelId) (s : State) : State :=
  s.update .host c .valid v (edgeIf v (s.chan c).value)

/-- R18: PULSE. The value of an UNKNOWN channel first becomes 0, not counted as an edge. -/
def State.pulseChannel (c : ChannelId) (s : State) : State :=
  s.update .host c .valid (if (s.chan c).state = .unknown then false else (s.chan c).value) 2

/-- R19: WITHDRAW. -/
def State.withdrawChannel (c : ChannelId) (s : State) : State := s.update .host c .stale (s.chan c).value 0

/-- CHANNEL_SET DRIVE_0 (R16, R17). -/
def execChannelSetDrive0 (s : State) : Host.Outcome State Fault Refusal :=
  request (ofSetAction .drive0) (channelSetRule (State.driveChannel false)) s

/-- CHANNEL_SET DRIVE_1 (R16, R17). -/
def execChannelSetDrive1 (s : State) : Host.Outcome State Fault Refusal :=
  request (ofSetAction .drive1) (channelSetRule (State.driveChannel true)) s

/-- CHANNEL_SET PULSE (R16, R18). -/
def execChannelSetPulse (s : State) : Host.Outcome State Fault Refusal :=
  request (ofSetAction .pulse) (channelSetRule State.pulseChannel) s

/-- CHANNEL_SET WITHDRAW (R16, R19). -/
def execChannelSetWithdraw (s : State) : Host.Outcome State Fault Refusal :=
  request (ofSetAction .withdraw) (channelSetRule State.withdrawChannel) s

/-- R23: CHANNEL_WATCH. -/
def channelWatchRule : RequestRule
  | [c, on], s =>
    match channelOf c, boolOf on with
    | some c, some w => .ok (s.setChan c { s.chan c with watch := w }, [])
    | _, _ => .error .badArgument
  | _, _ => .error .badLength

/-- CHANNEL_WATCH (R23). -/
def execChannelWatch (s : State) : Host.Outcome State Fault Refusal := request (ofKind 0x08) channelWatchRule s

/-- R24, R40: the indices of a range read, first and count, of a table of `total` records, at most `most` of them. -/
def readRange (total most : Nat) (first count : Byte) : Option (List (Fin total)) :=
  if first.toNat < total ∧ 1 ≤ count.toNat ∧ count.toNat ≤ most ∧ first.toNat + count.toNat ≤ total then
    some ((List.finRange total).filter fun i => first.toNat ≤ i.val && i.val < first.toNat + count.toNat)
  else none

/-- R24: CHANNEL_READ. -/
def channelReadRule : RequestRule
  | [first, count], s =>
    match readRange Config.channelCount 12 first count with
    | some cs => .ok (s, first :: count :: cs.flatMap fun c => (s.chan c).report fun k => (s.linkAt k).exports c)
    | none => .error .badArgument
  | _, _ => .error .badLength

/-- CHANNEL_READ (R24). -/
def execChannelRead (s : State) : Host.Outcome State Fault Refusal := request (ofKind 0x09) channelReadRule s

end Sys2Proof.Machine
end

