-- ==== Sys2Proof/Machine/CombinerRequests.lean ====
section
/-! DEFINITION. The combiner requests (03_combiners.md section 3.4). -/

namespace Sys2Proof.Machine

/-- The settings of a COMBINER_CONFIG (R51). -/
structure CombinerSettings where
  threshold : Byte
  outInvert : Bool
  policy : StalePolicy
  members : List Member
deriving DecidableEq, Repr

/-- R51 check 1: the settings that the fields name, if the threshold fits a nonempty list and no channel stands in it twice. -/
def combinerSettingsOf (threshold invert policy : Byte) (list : List Byte) : Option CombinerSettings :=
  match boolOf invert, stalePolicyOf policy, membersOf list with
  | some i, some p, some ms =>
    if (ms ≠ [] ∧ (threshold = 0 ∨ ms.length < threshold.toNat)) ∨ ¬(ms.map Member.channel).Nodup then none
    else some ⟨threshold, i, p, ms⟩
  | _, _, _ => none

/-- Whether a source is a COMBINER source. -/
def ChannelSource.isCombiner : ChannelSource → Bool
  | .combiner _ => true
  | _ => false

/-- R52 steps 1 and 2: the configuration of a combiner is replaced. -/
def Combiner.withSettings (st : CombinerSettings) (cb : Combiner) : Combiner :=
  { cb with
    members := st.members
    threshold := if st.members = [] then 1 else st.threshold.toNat
    outInvert := st.outInvert
    policy := st.policy }

/-- R52: COMBINER_CONFIG on combiner `m`: the configuration, the evaluation, the update of R48. -/
def State.configureCombiner (m : CombinerId) (st : CombinerSettings) (s : State) : State :=
  (s.setComb m (((s.comb m).withSettings st).evaluate s.chan)).giveCombinerUpdate m (s.comb m)

/-- R51, R52: COMBINER_CONFIG. -/
def combinerConfigRule : RequestRule
  | m :: threshold :: invert :: policy :: _ :: list, s =>
    match combinerOf m, combinerSettingsOf threshold invert policy list with
    | some m, some st =>
      if st.members.any fun mb => (s.chan mb.channel).source.isCombiner then .error .loop
      else
        let t := s.configureCombiner m st
        .ok (t, [byteOfBool (t.comb m).outValue, byteOfBool (t.comb m).outValid])
    | _, _ => .error .badArgument
  | _, _ => .error .badLength

/-- COMBINER_CONFIG (R51 to R53). -/
def execCombinerConfig (s : State) : Host.Outcome State Fault Refusal := request (ofKind 0x0D) combinerConfigRule s

/-- R54: the data of COMBINER_READ. -/
def Combiner.report (chan : ChannelId → Channel) (m : CombinerId) (cb : Combiner) : List Byte :=
  [byteOfNat m, byteOfNat cb.threshold, byteOfBool cb.outInvert, cb.policy.code, byteOfNat cb.members.length] ++
    (cb.members.flatMap fun mb => mb.report (mb.input cb.policy chan) ((chan mb.channel).state == .valid)) ++
    [byteOfNat (cb.inputsAt1 chan), byteOfNat (cb.notValid chan), byteOfBool cb.outValue, byteOfBool cb.outValid]

/-- R54: COMBINER_READ. -/
def combinerReadRule : RequestRule
  | [m], s =>
    match combinerOf m with
    | some m => .ok (s, (s.comb m).report s.chan m)
    | none => .error .badArgument
  | _, _ => .error .badLength

/-- COMBINER_READ (R54). -/
def execCombinerRead (s : State) : Host.Outcome State Fault Refusal := request (ofKind 0x0E) combinerReadRule s

end Sys2Proof.Machine
end

