-- ==== Sys2Proof/Machine/EventRequests.lean ====
section
/-! DEFINITION. The requests of the event unit (R180, R181, R188, R190) and HOST_STATS (R176). -/

namespace Sys2Proof.Machine

/-- R181: the data of EVENTS_READ. -/
def EventUnit.report (e : EventUnit) : List Byte :=
  bytesOfFlags e.flags ++ bytesOfFlags e.noticeMask ++ bytesOfFlags e.alertMask ++
    [alertChannelCode e.alertChannel, byteOfBool e.alertInvert, byteOfBool e.alertn] ++ bytesOf16 e.lost ++
    [byteOfNat e.notices.length]

/-- R181: EVENTS_READ. -/
def eventsReadRule : RequestRule := fun _ s => .ok (s, s.events.report)

/-- EVENTS_READ (R181). -/
def execEventsRead (s : State) : Host.Outcome State Fault Refusal := request (ofKind 0x16) eventsReadRule s

/-- R180 steps 2 and 3: the flags that a mask names become clear, and ALERTN is re-evaluated. -/
def State.clearFlags (mask : FlagSet) (s : State) : State :=
  (s.modEvents fun e => { e with flags := e.flags &&& ~~~mask }).evalAlert

/-- R180: EVENTS_CLEAR. -/
def eventsClearRule : RequestRule
  | [b3, b2, b1, b0], s => .ok (s.clearFlags (flagsOfBytes b3 b2 b1 b0), bytesOfFlags s.events.flags)
  | _, _ => .error .badLength

/-- EVENTS_CLEAR (R180). -/
def execEventsClear (s : State) : Host.Outcome State Fault Refusal := request (ofKind 0x17) eventsClearRule s

/-- R188: NOTICE_CONFIG. -/
def noticeConfigRule : RequestRule
  | [b3, b2, b1, b0], s => .ok (s.modEvents fun e => { e with noticeMask := flagsOfBytes b3 b2 b1 b0 }, [])
  | _, _ => .error .badLength

/-- NOTICE_CONFIG (R188). -/
def execNoticeConfig (s : State) : Host.Outcome State Fault Refusal := request (ofKind 0x18) noticeConfigRule s

/-- R190: the alert settings take new values, and ALERTN is re-evaluated. -/
def State.configureAlert (mask : FlagSet) (channel : Option ChannelId) (invert : Bool) (s : State) : State :=
  (s.modEvents fun e => { e with alertMask := mask, alertChannel := channel, alertInvert := invert }).evalAlert

/-- R190: ALERT_CONFIG. -/
def alertConfigRule : RequestRule
  | [b3, b2, b1, b0, c, i], s =>
    match alertChannelOf c, boolOf i with
    | some c, some i => .ok (s.configureAlert (flagsOfBytes b3 b2 b1 b0) c i, [])
    | _, _ => .error .badArgument
  | _, _ => .error .badLength

/-- ALERT_CONFIG (R190). -/
def execAlertConfig (s : State) : Host.Outcome State Fault Refusal := request (ofKind 0x19) alertConfigRule s

/-- R176: HOST_STATS. -/
def hostStatsRule : RequestRule
  | [clear], s =>
    match boolOf clear with
    | some c =>
      .ok (if c then s.modHost fun h => { h with counters := HostCounters.zero } else s, s.host.counters.report)
    | none => .error .badArgument
  | _, _ => .error .badLength

/-- HOST_STATS (R176). -/
def execHostStats (s : State) : Host.Outcome State Fault Refusal := request (ofKind 0x1A) hostStatsRule s

end Sys2Proof.Machine
end

