-- ==== Sys2Proof/Machine/HostEvents.lean ====
section
/-! DEFINITION. The events of the host port (09_the_host_port.md). A byte that arrives is taken by the framer's state, whichever of the three byte rows reports it (DESIGN CHOICE, safe, log 12). -/

namespace Sys2Proof.Machine

/-- HOST_BYTE_RECEIVED (R162, R163). -/
def execHostByteReceived (b : Byte) (s : State) : Host.Outcome State Fault Refusal := event true (State.hostByte b) s

/-- HOST_BAD_LENGTH (R162). -/
def execHostBadLength (b : Byte) (s : State) : Host.Outcome State Fault Refusal := event true (State.hostByte b) s

/-- HOST_FRAME_RECEIVED (R164, R168 to R170): `b` is the last byte of the frame. -/
def execHostFrameReceived (b : Byte) (s : State) : Host.Outcome State Fault Refusal := event true (State.hostByte b) s

/-- HOST_GAP_TIMER_EXPIRY (R163). -/
def execHostGapTimerExpiry (s : State) : Host.Outcome State Fault Refusal :=
  expiry s.host.gapTimer State.framingError s

/-- HOST_CHARACTER_ERROR (R165). -/
def execHostCharacterError (s : State) : Host.Outcome State Fault Refusal :=
  event s.host.framer.inFrame State.framingError s

/-- HOST_TX_END (R173, R157). -/
def execHostTxEnd (s : State) : Host.Outcome State Fault Refusal := event s.host.sending.isSome State.hostTxEnd s

end Sys2Proof.Machine
end

