-- ==== Sys2Proof/Machine/HubRequests.lean ====
section
/-! DEFINITION. The requests of the hub as a whole (R148, R153 to R155, R59). -/

namespace Sys2Proof.Machine

/-- R148 check 2: a kind that is no request kind is answered UNKNOWN_KIND before any rule is asked. -/
def unknownKindRule : RequestRule := fun _ _ => .error .unknownKind

/-- UNKNOWN_KIND_REQUEST (R148, R196). -/
def execUnknownKindRequest (s : State) : Host.Outcome State Fault Refusal :=
  request (fun r => !isRequestKind r.kind) unknownKindRule s

/-- R153: the data of IDENTIFY. -/
def State.identity (s : State) : List Byte :=
  Config.vendorCode :: bytesOf16 Config.partCode ++
    [Config.revision, byteOfNat Config.lineCount, byteOfNat Config.channelCount, byteOfNat Config.combinerCount,
     byteOfNat Config.linkCount, byteOfNat Config.tableCapacity, byteOfNat Config.noticeCapacity, s.node]

/-- R153. -/
def identifyRule : RequestRule := fun _ s => .ok (s, s.identity)

/-- IDENTIFY (R153). -/
def execIdentify (s : State) : Host.Outcome State Fault Refusal := request (ofKind 0x01) identifyRule s

/-- R154: the data of STATUS. -/
def State.statusData (s : State) : List Byte :=
  allLinks.map (fun k => (s.linkAt k).state.code) ++
    [byteOfNat s.remote.entries.length, byteOfNat s.remote.doneCount] ++ bytesOf16 s.remote.lateCount ++
    [byteOfNat s.events.notices.length, byteOfBool (s.events.flags != 0), s.node]

/-- R154. -/
def statusRule : RequestRule := fun _ s => .ok (s, s.statusData)

/-- STATUS (R154). -/
def execStatus (s : State) : Host.Outcome State Fault Refusal := request (ofKind 0x02) statusRule s

/-- R155 steps 2 and 3, R166: the executor enters reset pending, and the host framer enters DISCARD from whatever state it is in. -/
def State.enterResetPending (s : State) : State :=
  (s.modExecutor fun e => { e with resetPending := true }).modHost fun h => { h with framer := .discard, gapTimer := none }

/-- R155. -/
def resetRule : RequestRule := fun _ s => .ok (s.enterResetPending, [])

/-- RESET (R155, R156, R166). -/
def execReset (s : State) : Host.Outcome State Fault Refusal := request (ofKind 0x03) resetRule s

/-- R59: SET_NODE. -/
def setNodeRule : RequestRule
  | [id], s =>
    if id = 0 ∨ id = 255 then .error .badArgument
    else if allLinks.any fun k => (s.linkAt k).state != .off then .error .wrongState
    else .ok ({ s with node := id }, [])
  | _, _ => .error .badLength

/-- SET_NODE (R59). -/
def execSetNode (s : State) : Host.Outcome State Fault Refusal := request (ofKind 0x04) setNodeRule s

end Sys2Proof.Machine
end

