-- ==== Sys2Proof/Machine/LineRequests.lean ====
section
/-! DEFINITION. The line requests (02_local_lines.md section 2.4): LINE_CONFIG, LINE_SET, LINE_READ. -/

namespace Sys2Proof.Machine

/-- R36: the settings of a line are replaced. -/
def Line.withSettings (st : LineSettings) (l : Line) : Line :=
  { l with
    mode := st.mode
    pull := st.pull
    inverted := st.inverted
    debounce := st.debounce
    output := st.output
    idle := st.idle
    driver := st.driver
    stale := st.stale
    manual := st.manual }

/-- R37 steps 1 and 2: the re-take of a line kept in INPUT mode. -/
def Line.retake (l : Line) : Line :=
  { l with interval := none, debounced := l.raw, edges := l.edges + BitVec.ofNat 16 (edgeIf l.raw l.debounced) }

/-- R34, R37, R38: what a LINE_CONFIG makes of a line. On leaving INPUT mode the interval is abandoned and the debounced level
follows the raw level at once (DEDUCED from R26 and R38, log 13). -/
def Line.configure (chan : ChannelId → Channel) (st : LineSettings) (l : Line) : Line :=
  let n := l.withSettings st
  match st.mode with
  | .off => { n with drive := .released, interval := none, debounced := l.raw }
  | .input => if l.mode = .input then n.retake else { n with drive := .released, interval := none }
  | .output =>
    if l.mode = .output then n.applyDriver chan
    else Line.applyDriver chan { n with drive := Drive.ofLevel st.idle, interval := none, debounced := l.raw }

/-- R36 to R38: LINE_CONFIG on line `n`; a line kept in INPUT mode updates its channel (R37 step 3). -/
def State.configureLine (n : LineId) (st : LineSettings) (s : State) : State :=
  let l := (s.lineAt n).configure s.chan st
  let t := s.setLine n l
  if (s.lineAt n).mode = .input ∧ st.mode = .input then t.updateBound (.line n) .valid l.value (edgeIf l.value) else t

/-- R36: LINE_CONFIG. -/
def lineConfigRule : RequestRule
  | [n, mode, pull, polarity, debounce, output, idle, driver, stale, manual], s =>
    match lineOf n, lineSettingsOf mode pull polarity debounce output idle driver stale manual with
    | some n, some st =>
      if (s.boundTo (.line n)).isSome ∧ st.mode ≠ .input then .error .conflict else .ok (s.configureLine n st, [])
    | _, _ => .error .badArgument
  | _, _ => .error .badLength

/-- LINE_CONFIG (R36 to R38, R34). -/
def execLineConfig (s : State) : Host.Outcome State Fault Refusal := request (ofKind 0x0A) lineConfigRule s

/-- R39: LINE_SET. -/
def lineSetRule : RequestRule
  | [n, v], s =>
    match lineOf n, boolOf v with
    | some n, some v =>
      if (s.lineAt n).mode = .output ∧ (s.lineAt n).driver = .manual then
        .ok (s.setLine n (Line.applyDriver s.chan { s.lineAt n with manual := v }), [])
      else .error .wrongState
    | _, _ => .error .badArgument
  | _, _ => .error .badLength

/-- LINE_SET (R39). -/
def execLineSet (s : State) : Host.Outcome State Fault Refusal := request (ofKind 0x0B) lineSetRule s

/-- R40: LINE_READ. -/
def lineReadRule : RequestRule
  | [first, count], s =>
    match readRange Config.lineCount 8 first count with
    | some ns => .ok (s, first :: count :: ns.flatMap fun n => (s.lineAt n).report)
    | none => .error .badArgument
  | _, _ => .error .badLength

/-- LINE_READ (R40). -/
def execLineRead (s : State) : Host.Outcome State Fault Refusal := request (ofKind 0x0C) lineReadRule s

end Sys2Proof.Machine
end

