-- ==== Sys2Proof/Machine/LinkEvents.lean ====
section
/-! DEFINITION. The events of the link engines: bytes and gaps on the line, the timers of the session and of the transport, the end of a frame; and the timers of the remote request table. -/

namespace Sys2Proof.Machine

/-- LINK_BYTE_RECEIVED (R197). -/
def execLinkByteReceived (k : LinkId) (b : Byte) (s : State) : Host.Outcome State Fault Refusal :=
  event true (State.linkByte k b) s

/-- LINK_FRAME_RECEIVED (R197, R84): `b` is the last byte of the frame. -/
def execLinkFrameReceived (k : LinkId) (b : Byte) (s : State) : Host.Outcome State Fault Refusal :=
  event true (State.linkByte k b) s

/-- LINK_FRAMER_GAP_EXPIRY (R197): the partial frame is abandoned with no trace. -/
def execLinkFramerGapExpiry (k : LinkId) (s : State) : Host.Outcome State Fault Refusal :=
  expiry (s.linkAt k).gapTimer (State.modLink k fun l => { l with framer := .hunting, gapTimer := none }) s

/-- HELLO_TIMER_EXPIRY (R58). -/
def execHelloTimerExpiry (k : LinkId) (s : State) : Host.Outcome State Fault Refusal :=
  expiry (s.linkAt k).helloTimer
    (State.modLink k fun l => { l with helloOwed := true, helloTimer := some Config.helloTime }) s

/-- KEEPALIVE_TIMER_EXPIRY (R65). -/
def execKeepaliveTimerExpiry (k : LinkId) (s : State) : Host.Outcome State Fault Refusal :=
  expiry (s.linkAt k).keepaliveTimer (State.modLink k fun l => { l with keepaliveDue := true, keepaliveTimer := none }) s

/-- R66, R67: the silence timer of link `k` expires. -/
def State.silenceExpiry (k : LinkId) (s : State) : State := (s.leaveUp k Link.toSeeking).raise (.linkLost k) 0

/-- SILENCE_TIMER_EXPIRY (R66). -/
def execSilenceTimerExpiry (k : LinkId) (s : State) : Host.Outcome State Fault Refusal :=
  expiry (s.linkAt k).silenceTimer (State.silenceExpiry k) s

/-- R72: the hold-off of link `k` expires. -/
def Link.holdOffExpiry (l : Link) : Link := if l.config.autoRestart then l.toSeeking else { l with holdOffTimer := none }

/-- HOLD_OFF_EXPIRY (R72). -/
def execHoldOffExpiry (k : LinkId) (s : State) : Host.Outcome State Fault Refusal :=
  expiry (s.linkAt k).holdOffTimer (State.modLink k Link.holdOffExpiry) s

/-- RETRANSMIT_TIMER_EXPIRY (R94). -/
def execRetransmitTimerExpiry (k : LinkId) (s : State) : Host.Outcome State Fault Refusal :=
  expiry (s.linkAt k).retransmitTimer (State.retransmitExpiry k) s

/-- ACK_TIMER_EXPIRY (R90). -/
def execAckTimerExpiry (k : LinkId) (s : State) : Host.Outcome State Fault Refusal :=
  expiry (s.linkAt k).ackTimer (State.modLink k fun l => { l with ackDue := true, ackTimer := none }) s

/-- LINK_TX_END (R97, R98): the line becomes free. -/
def execLinkTxEnd (k : LinkId) (s : State) : Host.Outcome State Fault Refusal :=
  event (s.linkAt k).line.isSome (State.modLink k fun l => { l with line := none }) s

/-- REMOTE_ENTRY_TIMEOUT (R131). -/
def execRemoteEntryTimeout (tag : Byte) (s : State) : Host.Outcome State Fault Refusal :=
  expiry (s.entryTimer tag) (State.entryTimeout tag) s

end Sys2Proof.Machine
end

