-- ==== Sys2Proof/Machine/LinkRequests.lean ====
section
/-! DEFINITION. The link requests: LINK_CONTROL, LINK_CONFIG, LINK_POLICY, LINK_STATUS (04 section 4.7), LINK_EXPORT (R105), LINK_STATS (R103). -/

namespace Sys2Proof.Machine

/-- R73 check 1: the link and the action of a LINK_CONTROL; then the checks and the effect of one action. -/
def linkControlRule (act : LinkId → State → Except Status State) : RequestRule
  | [k, a], s =>
    match linkOf k, controlActionOf a with
    | some k, some _ => (act k s).map fun t => (t, [])
    | _, _ => .error .badArgument
  | _, _ => .error .badLength

/-- R73 checks 2 and 4, R74: ENABLE. -/
def enableLink (k : LinkId) (s : State) : Except Status State :=
  if (s.linkAt k).state ≠ .off then .error .wrongState
  else if s.node = 0 then .error .notReady
  else .ok (s.modLink k Link.toSeeking)

/-- R75: DISABLE. -/
def disableLink (k : LinkId) (s : State) : Except Status State :=
  match (s.linkAt k).state with
  | .off => .ok s
  | .up => .ok (s.leaveUp k Link.toOff)
  | _ => .ok (s.modLink k Link.toOff)

/-- R73 check 3, R76: RESTART. -/
def restartLink (k : LinkId) (s : State) : Except Status State :=
  match (s.linkAt k).state with
  | .off => .error .wrongState
  | .up => .ok (s.leaveUp k Link.toSeeking)
  | _ => .ok (s.modLink k Link.toSeeking)

/-- LINK_CONTROL ENABLE (R73, R74). -/
def execLinkControlEnable (s : State) : Host.Outcome State Fault Refusal :=
  request (ofControlAction .enable) (linkControlRule enableLink) s

/-- LINK_CONTROL DISABLE (R73, R75). -/
def execLinkControlDisable (s : State) : Host.Outcome State Fault Refusal :=
  request (ofControlAction .disable) (linkControlRule disableLink) s

/-- LINK_CONTROL RESTART (R73, R76). -/
def execLinkControlRestart (s : State) : Host.Outcome State Fault Refusal :=
  request (ofControlAction .restart) (linkControlRule restartLink) s

/-- R77: LINK_CONFIG. -/
def linkConfigRule : RequestRule
  | [k, keepalive, silence, retransmit, maxRetries, window, auto], s =>
    match linkOf k, linkConfigOf keepalive silence retransmit maxRetries window auto with
    | some k, some cf =>
      if (s.linkAt k).state = .seeking ∨ (s.linkAt k).state = .up then .error .wrongState
      else .ok (s.modLink k fun l => { l with config := cf }, [])
    | _, _ => .error .badArgument
  | _, _ => .error .badLength

/-- LINK_CONFIG (R77). -/
def execLinkConfig (s : State) : Host.Outcome State Fault Refusal := request (ofKind 0x10) linkConfigRule s

/-- R78: LINK_POLICY. -/
def linkPolicyRule : RequestRule
  | [k, p], s =>
    match linkOf k, policyOf p with
    | some k, some p => .ok (s.modLink k fun l => { l with policy := p }, [])
    | _, _ => .error .badArgument
  | _, _ => .error .badLength

/-- LINK_POLICY (R78). -/
def execLinkPolicy (s : State) : Host.Outcome State Fault Refusal := request (ofKind 0x11) linkPolicyRule s

/-- R79: the data of LINK_STATUS. -/
def Link.statusData (k : LinkId) (l : Link) : List Byte :=
  [byteOfNat k, l.state.code, l.session, l.peerNode.getD 0, l.peerSession, l.peerWindow, l.lastFault.code, l.policy.code,
   byteOfNat l.queue.length, byteOfNat l.changes.length] ++ l.config.report

/-- R79: LINK_STATUS. -/
def linkStatusRule : RequestRule
  | [k], s =>
    match linkOf k with
    | some k => .ok (s, (s.linkAt k).statusData k)
    | none => .error .badArgument
  | _, _ => .error .badLength

/-- LINK_STATUS (R79). -/
def execLinkStatus (s : State) : Host.Outcome State Fault Refusal := request (ofKind 0x12) linkStatusRule s

/-- R105 steps 1 to 3: the export set is replaced, the entries of removed channels are deleted, and in UP the added channels
receive snapshot entries. -/
def State.exportChannels (k : LinkId) (set : ChannelSet) (s : State) : State :=
  s.modLink k fun l =>
    { l with
      exported := set
      changes :=
        (l.changes.filter fun e => set.getLsbD e.channel) ++
          (if l.state = .up then s.snapshot (set &&& ~~~l.exported) else []) }

/-- R105: LINK_EXPORT. -/
def linkExportRule : RequestRule
  | k :: _ :: bytes, s =>
    match linkOf k with
    | some k =>
      let set := channelsOfBytes bytes
      if allChannels.any fun c : ChannelId => set.getLsbD c && (s.chan c).source == .link k then .error .loop
      else .ok (s.exportChannels k set, [])
    | none => .error .badArgument
  | _, _ => .error .badLength

/-- LINK_EXPORT (R105, R106). -/
def execLinkExport (s : State) : Host.Outcome State Fault Refusal := request (ofKind 0x13) linkExportRule s

/-- R103: LINK_STATS. -/
def linkStatsRule : RequestRule
  | [k, clear], s =>
    match linkOf k, boolOf clear with
    | some k, some c =>
      .ok (if c then s.modLink k fun l => { l with counters := LinkCounters.zero } else s,
        byteOfNat k :: (s.linkAt k).counters.report)
    | _, _ => .error .badArgument
  | _, _ => .error .badLength

/-- LINK_STATS (R103). -/
def execLinkStats (s : State) : Host.Outcome State Fault Refusal := request (ofKind 0x14) linkStatsRule s

end Sys2Proof.Machine
end

