-- ==== Sys2Proof/Machine/PowerReset.lean ====
section
/-! DEFINITION. Power reset (R158): the two events at RESETN. -/

namespace Sys2Proof.Machine

/-- R158: while RESETN is low every block stands at its reset values and the notice queue is empty, START being queued when the
hub leaves power reset. What the blocks hold then cannot be seen from outside: DESIGN CHOICE, safe (log 10). -/
def State.holdInReset (s : State) : State := State.resetWith s.host.rate [] true s.pending

/-- POWER_RESET_ENTRY (R158): RESETN falls: frames are cut off, every line is released, ALERTN is released, all work ends. -/
def execPowerResetEntry (s : State) : Host.Outcome State Fault Refusal := .next s.holdInReset

/-- R158, R160: every block takes its power reset values, the straps select the UART rate, and START POWER is queued. -/
def State.leaveReset (rate1 rate0 : Bool) (s : State) : State :=
  State.resetWith (rateOf rate1 rate0) [.start .power] false s.pending

/-- POWER_RESET_EXIT (R158): RESETN rises or power-up completes; taken in any state, since a loss of supply needs no RESETN
(log 11). The output arbiter "chooses at once" (R177). -/
def execPowerResetExit (rate1 rate0 : Bool) (s : State) : Host.Outcome State Fault Refusal :=
  .next (s.leaveReset rate1 rate0).settle

end Sys2Proof.Machine
end

