-- ==== Sys2Proof/Machine/RemoteRequests.lean ====
section
/-! DEFINITION. REMOTE_SEND (R126). -/

namespace Sys2Proof.Machine

/-- R126: REMOTE_SEND. The inner kind and body are not checked further. -/
def remoteSendRule : RequestRule
  | k :: timeout :: kind :: body, s =>
    match linkOf k with
    | some k =>
      if timeout = 0 ∨ kind = 0x15 then .error .badArgument
      else if (s.linkAt k).state ≠ .up then .error .linkNotUp
      else if Config.tableCapacity ≤ s.remote.entries.length then .error .busy
      else .ok (s.modRemote (RemoteTable.accept k timeout kind body), [s.remote.freshTag])
    | none => .error .badArgument
  | _, _ => .error .badLength

/-- REMOTE_SEND (R125 to R128). -/
def execRemoteSend (s : State) : Host.Outcome State Fault Refusal := request (ofKind 0x15) remoteSendRule s

end Sys2Proof.Machine
end

