-- ==== Sys2Proof/Machine/Dispatch.lean ====
section
/-! DEFINITION. One arm per command: the command's own meaning. -/

namespace Sys2Proof.Machine

def exec (i : Instr) (s : State) : Host.Outcome State Fault Refusal :=
  match i with
  | .powerResetEntry => Sys2Proof.Machine.execPowerResetEntry s
  | .powerResetExit rate1 rate0 => Sys2Proof.Machine.execPowerResetExit rate1 rate0 s
  | .lineSample n level => Sys2Proof.Machine.execLineSample n level s
  | .debounceExpiry n => Sys2Proof.Machine.execDebounceExpiry n s
  | .hostFrameReceived b => Sys2Proof.Machine.execHostFrameReceived b s
  | .hostBadLength b => Sys2Proof.Machine.execHostBadLength b s
  | .hostGapTimerExpiry => Sys2Proof.Machine.execHostGapTimerExpiry s
  | .hostCharacterError => Sys2Proof.Machine.execHostCharacterError s
  | .hostTxEnd => Sys2Proof.Machine.execHostTxEnd s
  | .unknownKindRequest => Sys2Proof.Machine.execUnknownKindRequest s
  | .identify => Sys2Proof.Machine.execIdentify s
  | .status => Sys2Proof.Machine.execStatus s
  | .reset => Sys2Proof.Machine.execReset s
  | .setNode => Sys2Proof.Machine.execSetNode s
  | .channelBind => Sys2Proof.Machine.execChannelBind s
  | .channelUnbind => Sys2Proof.Machine.execChannelUnbind s
  | .channelSetDrive0 => Sys2Proof.Machine.execChannelSetDrive0 s
  | .channelSetDrive1 => Sys2Proof.Machine.execChannelSetDrive1 s
  | .channelSetPulse => Sys2Proof.Machine.execChannelSetPulse s
  | .channelSetWithdraw => Sys2Proof.Machine.execChannelSetWithdraw s
  | .channelWatch => Sys2Proof.Machine.execChannelWatch s
  | .channelRead => Sys2Proof.Machine.execChannelRead s
  | .lineConfig => Sys2Proof.Machine.execLineConfig s
  | .lineSet => Sys2Proof.Machine.execLineSet s
  | .lineRead => Sys2Proof.Machine.execLineRead s
  | .combinerConfig => Sys2Proof.Machine.execCombinerConfig s
  | .combinerRead => Sys2Proof.Machine.execCombinerRead s
  | .linkControlEnable => Sys2Proof.Machine.execLinkControlEnable s
  | .linkControlDisable => Sys2Proof.Machine.execLinkControlDisable s
  | .linkControlRestart => Sys2Proof.Machine.execLinkControlRestart s
  | .linkConfig => Sys2Proof.Machine.execLinkConfig s
  | .linkPolicy => Sys2Proof.Machine.execLinkPolicy s
  | .linkStatus => Sys2Proof.Machine.execLinkStatus s
  | .linkExport => Sys2Proof.Machine.execLinkExport s
  | .linkStats => Sys2Proof.Machine.execLinkStats s
  | .remoteSend => Sys2Proof.Machine.execRemoteSend s
  | .eventsRead => Sys2Proof.Machine.execEventsRead s
  | .eventsClear => Sys2Proof.Machine.execEventsClear s
  | .noticeConfig => Sys2Proof.Machine.execNoticeConfig s
  | .alertConfig => Sys2Proof.Machine.execAlertConfig s
  | .hostStats => Sys2Proof.Machine.execHostStats s
  | .linkFrameReceived k b => Sys2Proof.Machine.execLinkFrameReceived k b s
  | .linkFramerGapExpiry k => Sys2Proof.Machine.execLinkFramerGapExpiry k s
  | .helloTimerExpiry k => Sys2Proof.Machine.execHelloTimerExpiry k s
  | .keepaliveTimerExpiry k => Sys2Proof.Machine.execKeepaliveTimerExpiry k s
  | .silenceTimerExpiry k => Sys2Proof.Machine.execSilenceTimerExpiry k s
  | .holdOffExpiry k => Sys2Proof.Machine.execHoldOffExpiry k s
  | .retransmitTimerExpiry k => Sys2Proof.Machine.execRetransmitTimerExpiry k s
  | .ackTimerExpiry k => Sys2Proof.Machine.execAckTimerExpiry k s
  | .linkTxEnd k => Sys2Proof.Machine.execLinkTxEnd k s
  | .remoteEntryTimeout tag => Sys2Proof.Machine.execRemoteEntryTimeout tag s
  | .hostByteReceived b => Sys2Proof.Machine.execHostByteReceived b s
  | .linkByteReceived k b => Sys2Proof.Machine.execLinkByteReceived k b s

end Sys2Proof.Machine
end

