-- ==== Sys2Proof/Machine/Step.lean ====
section
/-! DEFINITION. One step of the hub: the command at the front of the queue, or, with none waiting, the passing of time. -/

namespace Sys2Proof.Machine

/-- A step, "whole and indivisible" (95_what_each_step_holds.md), takes one command with the queue's rest.
On an empty queue 0.1 ms passes (log 4). -/
def step (s : State) : Host.Outcome State Fault Refusal :=
  match s.pending with
  | [] => .next s.idle
  | c :: rest => exec c { s with pending := rest }

/-- The command that a table word spells is put at the front of the queue; a word that spells none changes nothing (log 5). -/
def State.withFetchWord (s : State) (nbits w : Nat) : State :=
  match decodeTableWord nbits w with
  | some c => { s with pending := c :: s.pending }
  | none => s

end Sys2Proof.Machine
end

