-- ==== Sys2Proof/Safety.lean ====
section
/-! DEFINITION. The laws of the hub: what the spec's rules uphold in every state between two events, each as a predicate of one state. -/

namespace Sys2Proof.Machine

/-! ### The channel table and its sources -/

/-- R11: "each channel has at most one source, and each input line, combiner and link-status source is the source of at most one
channel". -/
def State.oneChannelPerSource (s : State) : Prop :=
  ∀ c d, (s.chan c).source.exclusive → (s.chan c).source = (s.chan d).source → c = d

/-- R2: "A channel whose source is NONE is UNKNOWN." -/
def State.sourcelessUnknown (s : State) : Prop := ∀ c, (s.chan c).source = .none → (s.chan c).state = .unknown

/-- R12: "No channel whose source is LINK k is in link k's export set." -/
def State.noEcho (s : State) : Prop := ∀ c k, (s.chan c).source = .link k → (s.linkAt k).exports c = false

/-- R12: "No channel that is a member of any combiner has a COMBINER source." -/
def State.noNesting (s : State) : Prop := ∀ c m, (s.comb m).hasMember c → (s.chan c).source.isCombiner = false

/-- R30, R36: a bound line is in INPUT mode, and its channel is VALID with value debounced level xor polarity. -/
def State.linesGiveValues (s : State) : Prop :=
  ∀ c n, (s.chan c).source = .line n →
    (s.lineAt n).mode = .input ∧ (s.chan c).state = .valid ∧ (s.chan c).value = (s.lineAt n).value

/-- R48: a channel bound to a combiner has the combiner's output state and output value. -/
def State.combinersGiveValues (s : State) : Prop :=
  ∀ c m, (s.chan c).source = .combiner m →
    (s.chan c).state = (s.comb m).outState ∧ (s.chan c).value = (s.comb m).outValue

/-- R54: the output of each combiner is the one an evaluation of the present records of its members gives. -/
def State.combinersCurrent (s : State) : Prop := ∀ m, (s.comb m).evaluate s.chan = s.comb m

/-- R22: a link-status channel is VALID, with value 1 while its link is UP and else 0. -/
def State.linkStatusTold (s : State) : Prop :=
  ∀ c k, (s.chan c).source = .linkStat k →
    (s.chan c).state = .valid ∧ (s.chan c).value = decide ((s.linkAt k).state = .up)

/-- R21: "a channel whose source is LINK k is VALID only while link k is UP". -/
def State.importsBacked (s : State) : Prop :=
  ∀ c k, (s.chan c).source = .link k → (s.chan c).state = .valid → (s.linkAt k).state = .up

/-- The laws of the channel table together. -/
structure State.ChannelLaw (s : State) : Prop where
  sources : s.oneChannelPerSource
  sourceless : s.sourcelessUnknown
  echo : s.noEcho
  nesting : s.noNesting
  lines : s.linesGiveValues
  combiners : s.combinersGiveValues
  current : s.combinersCurrent
  linkStatus : s.linkStatusTold
  imports : s.importsBacked

/-! ### Lines and combiners -/

/-- R26, R28: outside OUTPUT mode the drive is RELEASED; an interval runs exactly while an input line's raw level differs from its
debounced level; outside INPUT mode the two levels agree. -/
structure Line.Law (l : Line) : Prop where
  released : l.mode ≠ .output → l.drive = .released
  interval : l.interval.isSome ↔ l.mode = .input ∧ l.raw ≠ l.debounced
  follows : l.mode ≠ .input → l.debounced = l.raw

/-- R42, R43: at most 16 members, no channel twice, the threshold between 1 and the number of members, and 1 when there are none. -/
structure Combiner.Law (cb : Combiner) : Prop where
  members : cb.members.length ≤ Config.memberCapacity
  distinct : (cb.members.map Member.channel).Nodup
  positive : 1 ≤ cb.threshold
  bounded : cb.members ≠ [] → cb.threshold ≤ cb.members.length
  empty : cb.members = [] → cb.threshold = 1

/-! ### The link engines -/

/-- R92: the sequence numbers of a retransmit queue that ends before `next`. -/
def consecutive (next : Byte) (q : List FrameRecord) : Prop :=
  q.map FrameRecord.seq = (List.range q.length).map fun i => next - byteOfNat (q.length - i)

/-- R92: the queue holds no more frames than the window, they carry consecutive numbers, and it is empty unless the link is UP;
R93, R95: the retransmit timer runs while it is not empty, and the resend point names one of its records. -/
structure Link.QueueLaw (l : Link) : Prop where
  window : l.queue.length ≤ l.config.window.toNat
  eight : l.config.window.toNat ≤ 8
  numbers : consecutive l.nextSend l.queue
  down : l.state ≠ .up → l.queue = []
  timer : l.retransmitTimer.isSome ↔ l.queue ≠ []
  resend : ∀ p, l.resendPoint = some p → p ∈ l.queue.map FrameRecord.seq

/-- R107: the pending change list "holds each channel at most once, holds only channels in that link's export set, and is empty
whenever the link is not UP"; its edges are at most 15. -/
structure Link.ListLaw (l : Link) : Prop where
  distinct : (l.changes.map ChangeEntry.channel).Nodup
  exported : ∀ e ∈ l.changes, l.exports e.channel
  edges : ∀ e ∈ l.changes, e.edges ≤ Config.entryEdges
  down : l.state ≠ .up → l.changes = []

/-- R57: the timers that a state does not run do not run in it; what is owed, and the inbound slot (R137), belong to a state too. -/
structure Link.SessionLaw (l : Link) : Prop where
  hello : l.helloTimer.isSome ↔ l.state = .seeking
  silence : l.silenceTimer.isSome ↔ l.state = .up
  keepalive : l.keepaliveTimer.isSome → l.state = .up
  holdOff : l.holdOffTimer.isSome → l.state = .fault
  helloOwed : l.helloOwed → l.state = .seeking ∨ l.state = .up
  keepaliveDue : l.keepaliveDue → l.state = .up
  ackOwed : l.ackOwed → l.state = .up
  ackTimer : l.ackTimer.isSome → l.ackOwed
  ackDue : l.ackDue → l.ackOwed
  slot : l.state ≠ .up → l.slot = .empty

/-- The laws of one link engine together. -/
structure Link.Law (l : Link) : Prop where
  queue : l.QueueLaw
  list : l.ListLaw
  session : l.SessionLaw

/-- Every link engine keeps its laws. -/
def State.LinkLaw (s : State) : Prop := ∀ k, (s.linkAt k).Law

/-! ### The remote request table -/

/-- R124, R131, R70: whether an entry may exist only while its link is UP: one that is QUEUED, SENT or ORPHAN, and one that is DONE
with the orphan mark, which leaving UP takes away. -/
def RemoteEntry.needsUp (e : RemoteEntry) : Bool := e.state != .done || e.orphanMark

/-- R124: "at most 6 entries with distinct tags, at most one entry per link is SENT or ORPHAN, and every QUEUED, SENT or ORPHAN
entry names a link that is UP"; R123: the done order holds the tags of the DONE entries; R127: the timers that run. -/
structure State.RemoteLaw (s : State) : Prop where
  capacity : s.remote.entries.length ≤ Config.tableCapacity
  tags : (s.remote.entries.map RemoteEntry.tag).Nodup
  awaiting : ∀ k : LinkId, s.remote.entries.countP (fun e => e.link == k && e.awaiting) ≤ 1
  links : ∀ e ∈ s.remote.entries, e.needsUp → (s.linkAt e.link).state = .up
  order : s.remote.doneOrder.Nodup
  done : ∀ tag, tag ∈ s.remote.doneOrder ↔ ∃ e ∈ s.remote.entries, e.tag = tag ∧ e.state = .done
  timers : ∀ e ∈ s.remote.entries, e.timer.isSome ↔ e.state = .queued ∨ e.state = .sent

/-! ### The host port and the event unit -/

/-- R167, R170: an accepted request stands exactly while one is outstanding, and otherwise the cache holds the reply to the last
accepted SEQ; R161, R163, R166: the gap timer runs inside a frame, and the framer discards exactly in reset pending. -/
structure State.HostLaw (s : State) : Prop where
  outstanding : s.host.outstanding = s.host.accepted.isSome
  cache : s.host.cache.isSome ↔ s.host.lastSeq.isSome ∧ s.host.outstanding = false
  accepted : ∀ f, s.host.accepted = some f → s.host.lastSeq = some f.seq
  echo : ∀ f, s.host.cache = some f → s.host.lastSeq = some f.seq
  gap : s.host.gapTimer.isSome ↔ s.host.framer.inFrame
  discard : s.executor.resetPending ↔ s.host.framer = .discard

/-- R182: "The notice queue holds at most 16 notices and at most one CHANNEL notice per channel"; the count of a LOST notice is at
least 1. -/
structure State.NoticeLaw (s : State) : Prop where
  capacity : s.events.notices.length ≤ Config.noticeCapacity
  channels : ∀ c, s.events.notices.countP (Notice.isChannel c) ≤ 1
  counts : ∀ n ∈ s.events.notices, n ≠ .lost 0

/-- R191: "ALERTN is asserted exactly when an alert-masked event flag is set or the alert channel condition holds." -/
def State.alertExact (s : State) : Prop := s.events.alertn = s.alertHolds

/-! ### Requests: the words that statements about them use -/

/-- R144 to R150: `g` is the grant that the executor makes next, its request has this kind and body, and the policy check passes. -/
structure State.Grants (s : State) (g : Grant) (kind : Byte) (body : List Byte) : Prop where
  running : s.held = false
  next : s.nextGrant = some g
  kind : g.req.kind = kind
  body : g.req.body = body
  permitted : s.permits g = true

/-- R147: what follows the effect of a request that is carried out: the OK reply goes to the origin, and the arbiters choose. -/
def State.okReply (g : Grant) (data : List Byte) (u : State) : State := (u.answer g .ok data).settle

/-- R151: what a refused request leaves: the grant is taken, the reply goes to the origin, and the arbiters choose. -/
def State.refusal (g : Grant) (status : Status) (s : State) : State := ((s.takeGrant g).answer g status []).settle

/-- The requests that a row of the table serves; the rows that are no request serve none (log 1, log 3). -/
def requestsOf : Instr → HostFrame → Bool
  | .unknownKindRequest => fun r => !isRequestKind r.kind
  | .identify => ofKind 0x01
  | .status => ofKind 0x02
  | .reset => ofKind 0x03
  | .setNode => ofKind 0x04
  | .channelBind => ofKind 0x05
  | .channelUnbind => ofKind 0x06
  | .channelSetDrive0 => ofSetAction .drive0
  | .channelSetDrive1 => ofSetAction .drive1
  | .channelSetPulse => ofSetAction .pulse
  | .channelSetWithdraw => ofSetAction .withdraw
  | .channelWatch => ofKind 0x08
  | .channelRead => ofKind 0x09
  | .lineConfig => ofKind 0x0A
  | .lineSet => ofKind 0x0B
  | .lineRead => ofKind 0x0C
  | .combinerConfig => ofKind 0x0D
  | .combinerRead => ofKind 0x0E
  | .linkControlEnable => ofControlAction .enable
  | .linkControlDisable => ofControlAction .disable
  | .linkControlRestart => ofControlAction .restart
  | .linkConfig => ofKind 0x10
  | .linkPolicy => ofKind 0x11
  | .linkStatus => ofKind 0x12
  | .linkExport => ofKind 0x13
  | .linkStats => ofKind 0x14
  | .remoteSend => ofKind 0x15
  | .eventsRead => ofKind 0x16
  | .eventsClear => ofKind 0x17
  | .noticeConfig => ofKind 0x18
  | .alertConfig => ofKind 0x19
  | .hostStats => ofKind 0x1A
  | .powerResetEntry | .powerResetExit _ _ | .lineSample _ _ | .debounceExpiry _ | .hostFrameReceived _ | .hostBadLength _
  | .hostGapTimerExpiry | .hostCharacterError | .hostTxEnd | .linkFrameReceived _ _ | .linkFramerGapExpiry _
  | .helloTimerExpiry _ | .keepaliveTimerExpiry _ | .silenceTimerExpiry _ | .holdOffExpiry _ | .retransmitTimerExpiry _
  | .ackTimerExpiry _ | .linkTxEnd _ | .remoteEntryTimeout _ | .hostByteReceived _ | .linkByteReceived _ _ => fun _ => false

end Sys2Proof.Machine
end

