-- ==== Sys2Proof/Certificates/Slice0/Obligations.lean ====
section
/-! DEFINITION. The statements about the hub, each a proposition to be proved: the step and reset, requests, the channel table and its consumers, links, remote requests, host port, event unit, formats, and the laws that every step keeps. -/

open Sys2Proof Sys2Proof.Machine

/-! ### The step, the passing of time, reset -/

/-- 95_what_each_step_holds.md: a step takes the command at the front of the queue and runs it with the queue's rest. -/
def Obligations.StepRunsFrontCommand : Prop :=
  ∀ (c : Instr) (s : State), step { s with pending := c :: s.pending } = exec c s

/-- Log 4 (the model's choice): with no command waiting, free transmitters take what is eligible, and then every running timer comes
down by one unit of 0.1 ms and stays at 0; nothing else changes. In power reset nothing happens at all (R158). -/
def Obligations.IdleStepPassesTime : Prop :=
  (∀ s : State, s.pending = [] → s.held = true → step s = .next s) ∧
  (∀ s : State, s.pending = [] → s.held = false → step s = .next s.settle.passTime) ∧
  ∀ s : State,
    (∀ n, s.passTime.lineAt n = { s.lineAt n with interval := (s.lineAt n).interval.map (· - 1) }) ∧
    (∀ k, s.passTime.linkAt k =
      { s.linkAt k with
        helloTimer := (s.linkAt k).helloTimer.map (· - 1)
        keepaliveTimer := (s.linkAt k).keepaliveTimer.map (· - 1)
        silenceTimer := (s.linkAt k).silenceTimer.map (· - 1)
        holdOffTimer := (s.linkAt k).holdOffTimer.map (· - 1)
        retransmitTimer := (s.linkAt k).retransmitTimer.map (· - 1)
        ackTimer := (s.linkAt k).ackTimer.map (· - 1)
        gapTimer := (s.linkAt k).gapTimer.map (· - 1) }) ∧
    s.passTime.remote =
      { s.remote with entries := s.remote.entries.map fun e => { e with timer := e.timer.map (· - 1) } } ∧
    s.passTime.host = { s.host with gapTimer := s.host.gapTimer.map (· - 1) } ∧
    s.passTime.channels = s.channels ∧ s.passTime.combiners = s.combiners ∧ s.passTime.executor = s.executor ∧
    s.passTime.events = s.events ∧ s.passTime.node = s.node ∧ s.passTime.held = s.held ∧ s.passTime.pending = s.pending

/-- R4, R41, R55, R80, R81, R102, R104, R107, R137, R143, R145, R177, R193, R197, R59: the values that a reset gives every block,
whatever the rate kept or sampled. The raw and debounced levels stand at 0 until the first sample: the model's choice (log 7).

R189, R193 and log 8 (the straps at 00 are the model's choice): the state right after power reset. -/
def Obligations.ResetGivesTheTabledValues : Prop :=
  (∀ (rate : UartRate) (notices : List Notice) (held : Bool) (pending : List Instr),
     let t := State.resetWith rate notices held pending
     (∀ c, t.chan c = ⟨.none, .unknown, false, 0, false⟩) ∧
     (∀ n, t.lineAt n = ⟨.off, .none, false, 0, .pushPull, false, .manual, .hold, false, .released, false, false, 0, none⟩) ∧
     (∀ m, t.comb m = ⟨[], 1, false, .assert, false, false⟩) ∧
     (∀ k, t.linkAt k =
       { state := .off, session := 0, seen := false, peerNode := none, peerSession := 0, peerWindow := 0, lastFault := .none,
         config := ⟨50, 20, 20, 4, 4, true⟩, policy := .observe, helloTimer := none, keepaliveTimer := none,
         silenceTimer := none, holdOffTimer := none, helloOwed := false, keepaliveDue := false, nextSend := 0, queue := [],
         retryCount := 0, resendPoint := none, retransmitTimer := none, nextExpected := 0, ackOwed := false, ackDue := false,
         ackTimer := none, counters := ⟨0, 0, 0, 0, 0, 0, 0, 0, 0⟩, exported := 0, changes := [], slot := .empty,
         framer := .hunting, gapTimer := none, line := none }) ∧
     t.remote = ⟨[], [], 0, 0⟩ ∧
     t.executor = ⟨.host, false⟩ ∧
     t.host = ⟨rate, .hunt, none, none, none, false, none, none, none, 0, ⟨0, 0, 0, 0, 0⟩⟩ ∧
     (t.events.flags = 0 ∧ (∀ f, t.events.notices? f = true) ∧ t.events.alertChannel = none ∧ t.events.alertInvert = false ∧
       (∀ i < 31, t.events.alertMask.getLsbD i = decide (11 ≤ i ∧ i ≤ 18)) ∧ t.events.notices = notices ∧ t.events.lost = 0 ∧
       t.events.alertn = false) ∧
     t.node = 0 ∧ t.held = held ∧ t.pending = pending) ∧
  State.reset = State.resetWith .baud115200 [.start .power] false []

/-- R158: while RESETN is low, every pin is high impedance with no pull, ALERTN is released, no frame is in transmission, no timer
runs and no request waits. What the blocks hold then is the model's choice (log 10).

R158: "it sends nothing on the host UART or the links; it takes nothing from them": while RESETN is low, no command but the two
of RESETN changes anything. -/
def Obligations.PowerResetStopsTheHub : Prop :=
  (∀ s : State, ∃ t, exec .powerResetEntry s = .next t ∧ t.held = true ∧
     (∀ n, (t.lineAt n).mode = .off ∧ (t.lineAt n).pin = .highImpedance .none ∧ (t.lineAt n).interval = none) ∧
     t.events.alertn = false ∧ t.host.sending = none ∧ t.host.queued = none ∧ t.host.accepted = none ∧
     t.host.gapTimer = none ∧ t.executor.resetPending = false ∧ t.remote.entries = [] ∧ t.remote.doneOrder = [] ∧
     (∀ k, (t.linkAt k).line = none ∧ (t.linkAt k).state = .off ∧ (t.linkAt k).slot = .empty ∧ (t.linkAt k).queue = [] ∧
       (t.linkAt k).helloTimer = none ∧ (t.linkAt k).keepaliveTimer = none ∧ (t.linkAt k).silenceTimer = none ∧
       (t.linkAt k).holdOffTimer = none ∧ (t.linkAt k).retransmitTimer = none ∧ (t.linkAt k).ackTimer = none ∧
       (t.linkAt k).gapTimer = none ∧ (t.linkAt k).resendPoint = none) ∧
     t.pending = s.pending) ∧
  ∀ (c : Instr) (s : State), s.held = true → c ≠ .powerResetEntry → (∀ a b, c ≠ .powerResetExit a b) → exec c s = .next s

/-- R158, R160, R175, R177, R189: leaving power reset gives every block its reset values, the straps select the rate, and START with
cause POWER is begun at once, with output SEQ 0. The command is taken in every state (log 11, the model's choice). -/
def Obligations.PowerResetExitSendsStart : Prop :=
  ∀ (rate1 rate0 : Bool) (s : State),
    let rate : UartRate :=
      if rate1 then (if rate0 then .baud3000000 else .baud1000000) else (if rate0 then .baud460800 else .baud115200)
    let t := State.resetWith rate [] false s.pending
    exec (.powerResetExit rate1 rate0) s =
      .next { t with host := { t.host with sending := some (HostFrame.bytes ⟨0, 0x40, [1, 1]⟩), outSeq := 1 } }

/-- R157, R173, R177, R189, log 19: the end of a frame on the host transmitter frees it. In reset pending with no reply queued that
frame was the RESET reply: every block takes its reset values, the rate is kept, and START with cause SOFT begins at once. -/
def Obligations.HostTxEndFreesOrResets : Prop :=
  ∀ s : State, s.held = false →
    (s.host.sending = none → exec .hostTxEnd s = .next s) ∧
    (s.host.sending ≠ none → s.executor.resetPending = true → s.host.queued = none →
      exec .hostTxEnd s =
        let t := State.resetWith s.host.rate [] false s.pending
        .next { t with host := { t.host with sending := some (HostFrame.bytes ⟨0, 0x40, [1, 2]⟩), outSeq := 1 } }) ∧
    (s.host.sending ≠ none → (s.executor.resetPending = false ∨ s.host.queued ≠ none) →
      exec .hostTxEnd s = .next (State.settle { s with host := { s.host with sending := none } }))

/-! ### The executor -/

/-- R145: "It grants the first source that is ready", examining the sources in the fixed order from the pointer on; in reset pending
it makes no grant (R156). The host port is ready with an accepted request while no reply is queued, a slot while it holds a request
(R144, R171).

R146: each grant to another source brings a ready source strictly nearer to the front of the examination, so that at most four
other grants come before its own. -/
def Obligations.GrantIsFirstReadyAndRoundRobin : Prop :=
  ((∀ p : Source, p.fromHere = [p, p.next, p.next.next, p.next.next.next, p.next.next.next.next]) ∧
   (∀ s : State, s.readyRequest .host = if s.host.queued = none then s.host.accepted else none) ∧
   (∀ (s : State) (k : LinkId) (r : HostFrame),
     s.readyRequest (.slot k) = some r ↔ r.seq = 0 ∧ ∃ tag, (s.linkAt k).slot = .waiting tag r.kind r.body) ∧
   (∀ s : State, s.executor.resetPending = true → s.nextGrant = none) ∧
   (∀ s : State, s.executor.resetPending = false →
     (s.nextGrant = none ↔ s.readyRequest .host = none ∧ ∀ k, s.readyRequest (.slot k) = none)) ∧
   ∀ (s : State) (g : Grant), s.executor.resetPending = false →
     (s.nextGrant = some g ↔
       ∃ before after, s.executor.pointer.fromHere = before ++ g.src :: after ∧ s.readyRequest g.src = some g.req ∧
         ∀ x ∈ before, s.readyRequest x = none)) ∧
  ∀ (s : State) (g : Grant) (x : Source), s.nextGrant = some g → (s.readyRequest x).isSome → g.src ≠ x →
    g.src.next.fromHere.idxOf x < s.executor.pointer.fromHere.idxOf x ∧ s.executor.pointer.fromHere.idxOf x ≤ 4

/-- R145 step 3: the pointer moves to the source that follows the granted one, link 3 being followed by the host port; R171: the host
port's accepted request becomes none. Nothing else changes.

R147, R172, R139, R196: where a reply goes, and what it holds. A host reply is cached and queued, and the request is no longer
outstanding; a slot that holds the request becomes REPLIED. Nothing else changes. -/
def Obligations.GrantMovesPointerAndReplyGoesToOrigin : Prop :=
  (Source.next .host = .slot 0 ∧ Source.next (.slot 0) = .slot 1 ∧ Source.next (.slot 1) = .slot 2 ∧
   Source.next (.slot 2) = .slot 3 ∧ Source.next (.slot 3) = .host ∧
   (∀ (s : State) (r : HostFrame), s.takeGrant ⟨.host, r⟩ =
     { s with executor := { s.executor with pointer := .slot 0 }, host := { s.host with accepted := none } }) ∧
   ∀ (s : State) (k : LinkId) (r : HostFrame), s.takeGrant ⟨.slot k, r⟩ =
     { s with executor := { s.executor with pointer := Source.next (.slot k) } }) ∧
  (∀ (s : State) (r : HostFrame) (status : Status) (data : List Byte),
    let f : HostFrame :=
      ⟨r.seq, if 1 ≤ r.kind.toNat ∧ r.kind.toNat ≤ 0x1A then r.kind + 0x80 else 0x80, status.code :: data⟩
    s.answer ⟨.host, r⟩ status data =
      { s with host := { s.host with cache := some f, queued := some f, outstanding := false } }) ∧
  (∀ (s : State) (k : LinkId) (r : HostFrame) (tag : Byte) (status : Status) (data : List Byte),
    (s.linkAt k).slot = .waiting tag r.kind r.body →
      s.answer ⟨.slot k, r⟩ status data =
        { s with
          links := s.links.set k { s.linkAt k with slot := .replied tag r.kind status.code data } }) ∧
  [Status.ok, .unknownKind, .badLength, .badArgument, .denied, .conflict, .loop, .wrongState, .busy, .notReady, .linkNotUp,
    .timeout, .linkDown].map Status.code = [0, 1, 2, 3, 4, 5, 6, 7, 8, 9, 10, 11, 12]

/-- R148: the first three checks in their order, for every request row: a body length that a request kind does not allow, a kind that
is no request kind, a policy that does not allow the request. The check that fails gives the status, and the rest is a refusal.

R149, R199: the body lengths that each request kind allows. -/
def Obligations.ChecksFallInOrder : Prop :=
  (∀ (c : Instr) (s : State) (g : Grant), s.held = false → s.nextGrant = some g → requestsOf c g.req = true →
     (isRequestKind g.req.kind = true → lengthFits g.req.kind g.req.body = false →
       exec c s = .next (s.refusal g .badLength)) ∧
     (isRequestKind g.req.kind = false → exec c s = .next (s.refusal g .unknownKind)) ∧
     (isRequestKind g.req.kind = true → lengthFits g.req.kind g.req.body = true → s.permits g = false →
       exec c s = .next (s.refusal g .denied))) ∧
  (∀ kind : Byte, isRequestKind kind = decide (0x01 ≤ kind.toNat ∧ kind.toNat ≤ 0x1A)) ∧
  (∀ kind ∈ ([0x01, 0x02, 0x03, 0x16] : List Byte), ∀ b, lengthFits kind b = (b.length == 0)) ∧
  (∀ kind ∈ ([0x04, 0x06, 0x0E, 0x12, 0x1A] : List Byte), ∀ b, lengthFits kind b = (b.length == 1)) ∧
  (∀ kind ∈ ([0x07, 0x08, 0x09, 0x0B, 0x0C, 0x0F, 0x11, 0x14] : List Byte), ∀ b, lengthFits kind b = (b.length == 2)) ∧
  (∀ b, lengthFits 0x05 b = (b.length == 3)) ∧ (∀ b, lengthFits 0x0A b = (b.length == 10)) ∧
  (∀ b, lengthFits 0x10 b = (b.length == 7)) ∧ (∀ b, lengthFits 0x17 b = (b.length == 4)) ∧
  (∀ b, lengthFits 0x18 b = (b.length == 4)) ∧ (∀ b, lengthFits 0x19 b = (b.length == 6)) ∧
  (∀ b, lengthFits 0x15 b = decide (3 ≤ b.length ∧ b.length ≤ 60)) ∧
  (∀ b, lengthFits 0x0D b = decide (5 ≤ b.length ∧ b.length = 5 + 2 * (b.getD 4 0).toNat ∧ b.length ≤ 37)) ∧
  ∀ b, lengthFits 0x13 b = decide (2 ≤ b.length ∧ b.length = 2 + (b.getD 1 0).toNat ∧ (b.getD 1 0).toNat ≤ 8)

/-- R141, R142, R150: the policy table. The nested policies NONE, OBSERVE, OPERATE, FULL have the ranks 0, 1, 2, 3; the host is never
denied. -/
def Obligations.PolicyTable : Prop :=
  [Policy.none, .observe, .operate, .full].map Policy.rank = [0, 1, 2, 3] ∧
  (∀ (s : State) (r : HostFrame), s.permits ⟨.host, r⟩ = true) ∧
  ∀ (s : State) (k : LinkId) (r : HostFrame),
    let p := (s.linkAt k).policy.rank
    (r.kind ∈ ([0x01, 0x02, 0x09, 0x0C, 0x0E, 0x12, 0x16] : List Byte) → s.permits ⟨.slot k, r⟩ = decide (1 ≤ p)) ∧
    (r.kind = 0x14 → ∀ l clear, r.body = [l, clear] →
      s.permits ⟨.slot k, r⟩ = decide (if clear = 0 then 1 ≤ p else 2 ≤ p)) ∧
    (r.kind = 0x1A → ∀ clear, r.body = [clear] → s.permits ⟨.slot k, r⟩ = decide (if clear = 0 then 1 ≤ p else 2 ≤ p)) ∧
    (r.kind ∈ ([0x07, 0x0B, 0x17] : List Byte) → s.permits ⟨.slot k, r⟩ = decide (2 ≤ p)) ∧
    (r.kind ∈ ([0x04, 0x05, 0x06, 0x08, 0x0A, 0x0D, 0x13, 0x10, 0x18, 0x19] : List Byte) →
      s.permits ⟨.slot k, r⟩ = decide (p = 3)) ∧
    (r.kind = 0x0F → ∀ l a, r.body = [l, a] → s.permits ⟨.slot k, r⟩ = decide (p = 3 ∧ l.toNat ≠ k.val)) ∧
    (r.kind ∈ ([0x03, 0x15, 0x11] : List Byte) → s.permits ⟨.slot k, r⟩ = false)

/-- R151: "A request refused at any check has no effect": but for the pointer, the places of the reply, and what the arbiters then
send, every block is as it was.

Log 1, log 2 (the model's choice): a request row with no grant to make, or with a grant of another row's request, changes
nothing. -/
def Obligations.RefusalHasNoEffect : Prop :=
  (∀ (s : State) (g : Grant) (status : Status), ∃ u : State, s.refusal g status = u.settle ∧
     u.channels = s.channels ∧ u.lines = s.lines ∧ u.combiners = s.combiners ∧ u.remote = s.remote ∧ u.events = s.events ∧
     u.node = s.node ∧ u.held = s.held ∧ u.pending = s.pending ∧
     u.executor = { s.executor with pointer := g.src.next } ∧
     (∃ a c q o, u.host = { s.host with accepted := a, cache := c, queued := q, outstanding := o }) ∧
     ∀ k, ∃ slot, u.linkAt k = { s.linkAt k with slot := slot } ∧ (g.src ≠ .slot k → slot = (s.linkAt k).slot)) ∧
  ∀ (c : Instr) (s : State), (∃ r, requestsOf c r = true) → (∀ g, s.nextGrant = some g → requestsOf c g.req = false) →
    exec c s = .next s

/-- R97, R173, log 6: at the completion of an event the host output arbiter and the transmit arbiters of links 0 to 3 each make one
choice. R174: what these choices can touch. Channels, lines, combiners, the executor, the node id
and the queue of commands stay; so do the flags, the masks, the alert settings and ALERTN; and of a link engine, its session, its
configuration, its policy, its export set, its framer, its next expected number and its timers but for keepalive, retransmit and
ack. -/
def Obligations.ArbitersTouchOnlyWhatTheySend : Prop :=
  ∀ s : State,
    s.settle = State.linkArbiter 3 (State.linkArbiter 2 (State.linkArbiter 1 (State.linkArbiter 0 s.hostArbiter))) ∧
    s.settle.channels = s.channels ∧ s.settle.lines = s.lines ∧ s.settle.combiners = s.combiners ∧
    s.settle.executor = s.executor ∧ s.settle.node = s.node ∧ s.settle.held = s.held ∧ s.settle.pending = s.pending ∧
    (∃ N n, s.settle.events = { s.events with notices := N, lost := n }) ∧
    (∃ q f o, s.settle.host = { s.host with queued := q, sending := f, outSeq := o }) ∧
    (s.settle.remote.nextTag = s.remote.nextTag ∧ s.settle.remote.lateCount = s.remote.lateCount) ∧
    ∀ k, ∃ ho kt kd ns q rc rp rt ao ad a cs ch sl ln,
      s.settle.linkAt k =
        { s.linkAt k with
          helloOwed := ho, keepaliveTimer := kt, keepaliveDue := kd, nextSend := ns, queue := q, retryCount := rc,
          resendPoint := rp, retransmitTimer := rt, ackOwed := ao, ackDue := ad, ackTimer := a, counters := cs, changes := ch,
          slot := sl, line := ln }

/-! ### Requests of the hub as a whole -/

/-- R153, R154, R155, R166, R148: IDENTIFY and STATUS answer their data and change nothing; RESET enters reset pending, and the host
framer enters DISCARD; a kind that is no request kind is answered UNKNOWN_KIND.

R59: SET_NODE, its checks in order and its effect.

R103, R176: LINK_STATS and HOST_STATS answer the counters as they stand, and clear them when told to. -/
def Obligations.HubRequestsAnswerAndAct : Prop :=
  ((∀ (s : State) (g : Grant), s.Grants g 0x01 [] →
     exec .identify s = .next (State.okReply g [0x2B, 0x24, 0x04, 1, 24, 64, 8, 4, 6, 16, s.node] (s.takeGrant g))) ∧
   (∀ (s : State) (g : Grant), s.Grants g 0x02 [] →
     exec .status s = .next (State.okReply g
       ([(s.linkAt 0).state.code, (s.linkAt 1).state.code, (s.linkAt 2).state.code, (s.linkAt 3).state.code,
         byteOfNat s.remote.entries.length, byteOfNat (s.remote.entries.filter fun e => e.state == .done).length] ++
         bytesOf16 s.remote.lateCount ++
         [byteOfNat s.events.notices.length, if s.events.flags = 0 then 0 else 1, s.node])
       (s.takeGrant g))) ∧
   (∀ (s : State) (g : Grant), s.Grants g 0x03 [] → g.src = .host ∧
     exec .reset s = .next (State.okReply g []
       { s.takeGrant g with
         executor := { (s.takeGrant g).executor with resetPending := true }
         host := { (s.takeGrant g).host with framer := .discard, gapTimer := none } })) ∧
   ∀ (s : State) (g : Grant), s.held = false → s.nextGrant = some g → (g.req.kind.toNat = 0 ∨ 0x1A < g.req.kind.toNat) →
     exec .unknownKindRequest s = .next (s.refusal g .unknownKind)) ∧
  (∀ (s : State) (g : Grant) (id : Byte), s.Grants g 0x04 [id] →
     exec .setNode s = .next (
       if id = 0 ∨ id = 255 then s.refusal g .badArgument
       else if ∃ k, (s.linkAt k).state ≠ .off then s.refusal g .wrongState
       else State.okReply g [] { s.takeGrant g with node := id })) ∧
  (∀ (s : State) (g : Grant) (kb clear : Byte), s.Grants g 0x14 [kb, clear] →
    exec .linkStats s = .next (
      match linkOf kb with
      | none => s.refusal g .badArgument
      | some k =>
        let n := (s.linkAt k).counters
        let data := kb :: bytesOf16 n.sent ++ bytesOf16 n.resent ++ bytesOf16 n.receivedGood ++ bytesOf16 n.crcErrors ++
          bytesOf16 n.duplicates ++ bytesOf16 n.outOfOrder ++ bytesOf16 n.badAcks ++ bytesOf16 n.strayEntries ++
          bytesOf16 n.timerExpiries
        if clear = 0 then State.okReply g data (s.takeGrant g)
        else if clear = 1 then
          State.okReply g data ((s.takeGrant g).modLink k fun l => { l with counters := ⟨0, 0, 0, 0, 0, 0, 0, 0, 0⟩ })
        else s.refusal g .badArgument)) ∧
  ∀ (s : State) (g : Grant) (clear : Byte), s.Grants g 0x1A [clear] →
    exec .hostStats s = .next (
      let n := s.host.counters
      let data := bytesOf16 n.crcErrors ++ bytesOf16 n.framingErrors ++ bytesOf16 n.sequenceGaps ++ bytesOf16 n.overruns ++
        bytesOf16 n.retries
      if clear = 0 then State.okReply g data (s.takeGrant g)
      else if clear = 1 then
        State.okReply g data ((s.takeGrant g).modHost fun h => { h with counters := ⟨0, 0, 0, 0, 0⟩ })
      else s.refusal g .badArgument)

/-- R180, R181, R188, R190: the requests of the event unit. `flagsOfBytes` reads a flag mask, and `evalAlert` is the re-evaluation of
ALERTN.

R178, R191, R194: bit n of a flag mask stands for flag n, bit 31 is not looked at, and the 31 flags have the numbers of the table;
the re-evaluation of ALERTN writes ALERTN alone, by the condition of R191. -/
def Obligations.EventRequestsAnswerAndAct : Prop :=
  ((∀ (s : State) (g : Grant), s.Grants g 0x16 [] →
     exec .eventsRead s = .next (State.okReply g
       (bytesOfFlags s.events.flags ++ bytesOfFlags s.events.noticeMask ++ bytesOfFlags s.events.alertMask ++
         [match s.events.alertChannel with | none => 0xFF | some c => byteOfNat c, if s.events.alertInvert then 1 else 0,
          if s.events.alertn then 1 else 0] ++
         bytesOf16 s.events.lost ++ [byteOfNat s.events.notices.length])
       (s.takeGrant g))) ∧
   (∀ (s : State) (g : Grant) (b3 b2 b1 b0 : Byte), s.Grants g 0x17 [b3, b2, b1, b0] →
     exec .eventsClear s = .next (State.okReply g (bytesOfFlags s.events.flags)
       (State.evalAlert ((s.takeGrant g).modEvents fun e => { e with flags := e.flags &&& ~~~flagsOfBytes b3 b2 b1 b0 })))) ∧
   (∀ (s : State) (g : Grant) (b3 b2 b1 b0 : Byte), s.Grants g 0x18 [b3, b2, b1, b0] →
     exec .noticeConfig s = .next (State.okReply g []
       ((s.takeGrant g).modEvents fun e => { e with noticeMask := flagsOfBytes b3 b2 b1 b0 }))) ∧
   ∀ (s : State) (g : Grant) (b3 b2 b1 b0 cb i : Byte), s.Grants g 0x19 [b3, b2, b1, b0, cb, i] →
     exec .alertConfig s = .next (
       if (64 ≤ cb.toNat ∧ cb ≠ 0xFF) ∨ 2 ≤ i.toNat then s.refusal g .badArgument
       else State.okReply g [] (State.evalAlert ((s.takeGrant g).modEvents fun e =>
         { e with
           alertMask := flagsOfBytes b3 b2 b1 b0
           alertChannel := channelOf cb
           alertInvert := i == 1 })))) ∧
  (∀ (b3 b2 b1 b0 : Byte) (i : Nat), i < 31 →
    (flagsOfBytes b3 b2 b1 b0).getLsbD i =
      (if i < 8 then b0.getLsbD i else if i < 16 then b1.getLsbD (i - 8) else if i < 24 then b2.getLsbD (i - 16)
       else b3.getLsbD (i - 24))) ∧
  (∀ f : FlagSet, ∃ b3 b2 b1 b0, bytesOfFlags f = [b3, b2, b1, b0] ∧ flagsOfBytes b3 b2 b1 b0 = f ∧ b3.msb = false) ∧
  [Flag.hostCrc, .hostFraming, .hostSeqGap, .hostOverrun, .noticeLost, .remoteTimeout, .lateReply].map Flag.number =
    [0, 1, 2, 3, 4, 5, 6] ∧
  (∀ k : LinkId, [Flag.linkUp k, .linkLost k, .linkFault k, .peerRestart k, .linkCrc k, .linkStray k].map Flag.number =
    [7 + k.val, 11 + k.val, 15 + k.val, 19 + k.val, 23 + k.val, 27 + k.val]) ∧
  ∀ s : State, s.evalAlert = { s with events := { s.events with alertn := s.evalAlert.events.alertn } } ∧
    (s.evalAlert.events.alertn = true ↔
      (∃ i < 31, s.events.flags.getLsbD i = true ∧ s.events.alertMask.getLsbD i = true) ∨
        ∃ c, s.events.alertChannel = some c ∧
          ((s.chan c).state ≠ .valid ∨ ((s.chan c).value ^^ s.events.alertInvert) = true))

/-! ### The channel table -/

/-- R11, R12, R13: CHANNEL_BIND, its checks in order; when all pass, the source is named and the channel takes its initial reading, a
change being offered. `sourceOf` reads the source kind and index. -/
def Obligations.ChannelBindChecksThenBinds : Prop :=
  ∀ (s : State) (g : Grant) (cb kind index : Byte), s.Grants g 0x05 [cb, kind, index] →
    exec .channelBind s = .next (
      match channelOf cb, sourceOf kind index with
      | some c, some src =>
        if (s.chan c).source ≠ .none then s.refusal g .conflict
        else if src.exclusive = true ∧ ∃ d, (s.chan d).source = src then s.refusal g .conflict
        else if ∃ n, src = .line n ∧ (s.lineAt n).mode ≠ .input then s.refusal g .wrongState
        else if ∃ k, src = .link k ∧ (s.linkAt k).exports c = true then s.refusal g .loop
        else if ∃ m, src = .combiner m ∧ ∃ m', (s.comb m').hasMember c = true then s.refusal g .loop
        else
          let old := s.chan c
          let reading : Validity × Bool :=
            match src with
            | .line n => (.valid, (s.lineAt n).debounced ^^ (s.lineAt n).inverted)
            | .combiner m => ((s.comb m).outState, (s.comb m).outValue)
            | .linkStat k => (.valid, decide ((s.linkAt k).state = .up))
            | _ => (.unknown, old.value)
          State.okReply g [] (State.change c reading.1 reading.2 (if reading.2 = old.value then 0 else 1)
            ((s.takeGrant g).setChan c { old with source := src }))
      | _, _ => s.refusal g .badArgument)

/-- 11 section 11.5, R11 check 1: the sources that a source kind and a source index name, and the numbers that name a channel, a line, a
combiner or a link.

R36 check 1 and 11 section 11.5: the settings that the nine bytes of a LINE_CONFIG name, and none where one of them names no
value.

R104, R194: bit j of byte i of a channel set stands for channel 8i + j, and missing bytes stand for absent channels. -/
def Obligations.OperandCodes : Prop :=
  ((∀ kind index : Byte,
     sourceOf kind index =
       if kind = 1 then (if h : index.toNat < 24 then some (.line ⟨index.toNat, h⟩) else none)
       else if kind = 2 then (if index = 0 then some .host else none)
       else if kind = 3 then (if h : index.toNat < 4 then some (.link ⟨index.toNat, h⟩) else none)
       else if kind = 4 then (if h : index.toNat < 8 then some (.combiner ⟨index.toNat, h⟩) else none)
       else if kind = 5 then (if h : index.toNat < 4 then some (.linkStat ⟨index.toNat, h⟩) else none)
       else none) ∧
   (∀ b : Byte, channelOf b = if h : b.toNat < 64 then some ⟨b.toNat, h⟩ else none) ∧
   (∀ b : Byte, lineOf b = if h : b.toNat < 24 then some ⟨b.toNat, h⟩ else none) ∧
   (∀ b : Byte, combinerOf b = if h : b.toNat < 8 then some ⟨b.toNat, h⟩ else none) ∧
   ∀ b : Byte, linkOf b = if h : b.toNat < 4 then some ⟨b.toNat, h⟩ else none) ∧
  (∀ (mode pull polarity debounce output idle driver stale manual : Byte),
     (lineSettingsOf mode pull polarity debounce output idle driver stale manual = none ↔
       2 < mode.toNat ∨ 2 < pull.toNat ∨ 1 < polarity.toNat ∨ 1 < output.toNat ∨ 1 < idle.toNat ∨
         (64 ≤ driver.toNat ∧ driver ≠ 0xFF) ∨ 3 < stale.toNat ∨ 1 < manual.toNat) ∧
     ∀ st, lineSettingsOf mode pull polarity debounce output idle driver stale manual = some st →
       st.mode.code = mode ∧ st.pull.code = pull ∧ st.inverted.toNat = polarity.toNat ∧ st.debounce = debounce ∧
       st.output.code = output ∧ st.idle.toNat = idle.toNat ∧ st.driver.code = driver ∧ st.stale.code = stale ∧
       st.manual.toNat = manual.toNat) ∧
  ∀ (bytes : List Byte) (c : ChannelId), bytes.length ≤ 8 →
    (channelsOfBytes bytes).getLsbD c.val = (bytes.getD (c.val / 8) 0).getLsbD (c.val % 8)

/-- R15: CHANNEL_UNBIND.

R23: CHANNEL_WATCH writes the watch field, whatever the channel's state and source, and offers nothing. -/
def Obligations.ChannelUnbindAndWatch : Prop :=
  (∀ (s : State) (g : Grant) (cb : Byte), s.Grants g 0x06 [cb] →
     exec .channelUnbind s = .next (
       match channelOf cb with
       | none => s.refusal g .badArgument
       | some c =>
         if (s.chan c).source = .none then State.okReply g [] (s.takeGrant g)
         else State.okReply g [] (State.change c .unknown (s.chan c).value 0
           ((s.takeGrant g).setChan c { s.chan c with source := .none })))) ∧
  ∀ (s : State) (g : Grant) (cb w : Byte), s.Grants g 0x08 [cb, w] →
    exec .channelWatch s = .next (
      match channelOf cb with
      | none => s.refusal g .badArgument
      | some c =>
        if 2 ≤ w.toNat then s.refusal g .badArgument
        else State.okReply g [] ((s.takeGrant g).setChan c { s.chan c with watch := w == 1 }))

/-- R16 to R19: the four actions of CHANNEL_SET on a host channel, with the state, value and edge increment that each gives.

R16: CHANNEL_SET is refused where the channel number or the action names nothing, and where the channel's source is not HOST. A body
that names no action is served by every row of the kind (log 3). -/
def Obligations.ChannelSetDrivesHostChannels : Prop :=
  (∀ (s : State) (g : Grant) (cb : Byte) (c : ChannelId), channelOf cb = some c → (s.chan c).source = .host →
     (s.Grants g 0x07 [cb, 0] → exec .channelSetDrive0 s =
       .next (State.okReply g [] ((s.takeGrant g).change c .valid false (if (s.chan c).value then 1 else 0)))) ∧
     (s.Grants g 0x07 [cb, 1] → exec .channelSetDrive1 s =
       .next (State.okReply g [] ((s.takeGrant g).change c .valid true (if (s.chan c).value then 0 else 1)))) ∧
     (s.Grants g 0x07 [cb, 2] → exec .channelSetPulse s =
       .next (State.okReply g []
         ((s.takeGrant g).change c .valid (if (s.chan c).state = .unknown then false else (s.chan c).value) 2))) ∧
     (s.Grants g 0x07 [cb, 3] → exec .channelSetWithdraw s =
       .next (State.okReply g [] ((s.takeGrant g).change c .stale (s.chan c).value 0)))) ∧
  ∀ (s : State) (g : Grant) (cb a : Byte) (row : Instr), s.Grants g 0x07 [cb, a] →
    row ∈ [Instr.channelSetDrive0, .channelSetDrive1, .channelSetPulse, .channelSetWithdraw] → requestsOf row g.req = true →
    ((64 ≤ cb.toNat ∨ 4 ≤ a.toNat) → exec row s = .next (s.refusal g .badArgument)) ∧
    (∀ c, channelOf cb = some c → a.toNat < 4 → (s.chan c).source ≠ .host → exec row s = .next (s.refusal g .wrongState))

/-- R24, R40: CHANNEL_READ and LINE_READ answer the first number, the count, and the reports of that many records from the first on;
they change nothing. -/
def Obligations.ReadsReportARange : Prop :=
  (∀ (s : State) (g : Grant) (f n : Byte), s.Grants g 0x09 [f, n] →
    exec .channelRead s = .next (
      if 64 ≤ f.toNat ∨ n = 0 ∨ 12 < n.toNat ∨ 64 < f.toNat + n.toNat then s.refusal g .badArgument
      else State.okReply g
        (f :: n :: (List.range n.toNat).flatMap fun i =>
          let c : ChannelId := Fin.ofNat 64 (f.toNat + i)
          (s.chan c).report fun k => (s.linkAt k).exports c)
        (s.takeGrant g))) ∧
  ∀ (s : State) (g : Grant) (f n : Byte), s.Grants g 0x0C [f, n] →
    exec .lineRead s = .next (
      if 24 ≤ f.toNat ∨ n = 0 ∨ 8 < n.toNat ∨ 24 < f.toNat + n.toNat then s.refusal g .badArgument
      else State.okReply g (f :: n :: (List.range n.toNat).flatMap fun i => (s.lineAt (Fin.ofNat 24 (f.toNat + i))).report)
        (s.takeGrant g))

/-- 11 section 11.6: the bits of a channel report, a line report and a member report.

11 section 11.3 and 11.4, R196: the layout of host frames, link frames, notices and remote results, with the examples of section
11.3 and 11.4.

11 section 11.5: the value codes of states, line settings, link states, fault causes, policies and START causes, which reports,
replies and notices carry. R195, R198: the body lengths that each link frame kind allows. -/
def Obligations.ReportAndFrameLayouts : Prop :=
  ((∀ (ch : Channel) (ex : LinkId → Bool), ∃ b0 b1 hi lo, ch.report ex = [b0, b1, hi, lo] ∧
     b0.toNat = ch.source.kindCode.toNat + 8 * ch.source.index.toNat ∧
     b1.toNat = ch.state.code.toNat + 4 * ch.value.toNat + 8 * ch.watch.toNat + 16 * (ex 0).toNat + 32 * (ex 1).toNat +
       64 * (ex 2).toNat + 128 * (ex 3).toNat ∧
     256 * hi.toNat + lo.toNat = ch.edges.toNat) ∧
   (∀ l : Line, ∃ b0 b3 hi lo, l.report = [b0, l.debounce, l.driver.code, b3, hi, lo] ∧
     b0.toNat = l.mode.code.toNat + 4 * l.pull.code.toNat + 16 * l.inverted.toNat + 32 * l.output.code.toNat +
       64 * l.idle.toNat + 128 * l.manual.toNat ∧
     b3.toNat = l.stale.code.toNat + 4 * l.drive.code.toNat + 16 * l.raw.toNat + 32 * l.debounced.toNat ∧
     256 * hi.toNat + lo.toNat = l.edges.toNat) ∧
   (∀ (mb : Member) (input valid : Bool), ∃ b1 : Byte, mb.report input valid = [byteOfNat mb.channel, b1] ∧
     b1.toNat = mb.invert.toNat + 2 * input.toNat + 4 * valid.toNat) ∧
   [ChannelSource.none, .line 3, .host, .link 2, .combiner 7, .linkStat 1].map ChannelSource.kindCode = [0, 1, 2, 3, 4, 5] ∧
   [ChannelSource.none, .line 23, .host, .link 2, .combiner 7, .linkStat 1].map ChannelSource.index = [0, 23, 0, 2, 7, 1]) ∧
  ((∀ f : HostFrame, f.body.length ≤ 63 → ∃ len : Byte, len.toNat = f.body.length + 1 ∧
     f.bytes = [0x5A, len, f.seq, f.kind] ++ f.body ++ bytesOf16 (crc16 (len :: f.seq :: f.kind :: f.body))) ∧
   (∀ f : LinkFrame, f.body.length ≤ 64 → ∃ len : Byte, len.toNat = f.body.length ∧
     f.bytes = [0xC3, f.kind, f.seq, f.ack, len] ++ f.body ++ bytesOf16 (crc16 (f.kind :: f.seq :: f.ack :: len :: f.body))) ∧
   (∀ w : Word16, ∃ hi lo, bytesOf16 w = [hi, lo] ∧ 256 * hi.toNat + lo.toNat = w.toNat) ∧
   (∀ cause, (Notice.start cause).body = [1, match cause with | .power => 1 | .soft => 2]) ∧
   (∀ f detail, (Notice.event f detail).body = [2, byteOfNat f.number, detail]) ∧
   (∀ c st v e, (Notice.channel c st v e).body =
     [3, byteOfNat c, match st with | .unknown => 0 | .valid => 1 | .stale => 2, if v then 1 else 0] ++ bytesOf16 e) ∧
   (∀ n, (Notice.lost n).body = 4 :: bytesOf16 n) ∧
   (∀ e : RemoteEntry, e.resultBody = e.tag :: byteOfNat e.link :: e.kind :: e.status :: e.data) ∧
   HostFrame.bytes ⟨0, 0x01, []⟩ = [0x5A, 0x01, 0x00, 0x01, 0xEB, 0x8D] ∧
   (∃ crc, LinkFrame.bytes ⟨0x03, 0, 0, ChangeEntry.bytes ⟨7, false, true, 0⟩ ++ ChangeEntry.bytes ⟨8, true, true, 4⟩⟩ =
     [0xC3, 0x03, 0x00, 0x00, 0x04, 0x47, 0x00, 0xC8, 0x04] ++ bytesOf16 crc)) ∧
  [Validity.unknown, .valid, .stale].map Validity.code = [0, 1, 2] ∧
  [LineMode.off, .input, .output].map LineMode.code = [0, 1, 2] ∧
  [Pull.none, .up, .down].map Pull.code = [0, 1, 2] ∧
  [OutputType.pushPull, .openDrain].map OutputType.code = [0, 1] ∧
  [StaleAction.hold, .low, .high, .release].map StaleAction.code = [0, 1, 2, 3] ∧
  (∀ c : ChannelId, (Driver.channel c).code.toNat = c.val) ∧ Driver.code .manual = 0xFF ∧
  [Drive.released, .driving0, .driving1].map Drive.code = [0, 1, 2] ∧
  [StalePolicy.assert, .deassert, .hold, .propagate].map StalePolicy.code = [0, 1, 2, 3] ∧
  [LinkState.off, .seeking, .up, .fault].map LinkState.code = [0, 1, 2, 3] ∧
  [FaultCause.none, .retryLimit, .selfLoop, .version].map FaultCause.code = [0, 1, 2, 3] ∧
  [Policy.none, .observe, .operate, .full].map Policy.code = [0, 1, 2, 3] ∧
  [ResetCause.power, .soft].map ResetCause.code = [1, 2] ∧
  ∀ (kind : Byte) (len : Nat),
    linkLengthFits kind len =
      if kind = 1 then decide (len = 6)
      else if kind = 2 then decide (len = 0)
      else if kind = 3 then decide (len ∈ [2, 4, 6, 8, 10, 12])
      else if kind = 4 then decide (2 ≤ len ∧ len ≤ 59)
      else if kind = 5 then decide (3 ≤ len ∧ len ≤ 59)
      else false

/-! ### Channel changes and their consumers -/

/-- R6, R7, R8: an update from an object that is not the channel's source makes no change; an applied update writes state, value and edges
(wrapping); and only where one of the three moves is it offered, first to every consumer and then to the combiners' channels.

R5, R6, R11: an update from a line, a combiner or a link-status object goes to the one channel that it sources, and nowhere where
it sources none. The law of R11 is a premise. -/
def Obligations.UpdateIsAppliedFromItsSource : Prop :=
  (∀ (s : State) (src : ChannelSource) (c : ChannelId) (st : Validity) (v : Bool) (inc : Nat),
     ((s.chan c).source ≠ src → s.update src c st v inc = s) ∧
     ((s.chan c).source = src →
       s.update src c st v inc =
         let t := s.setChan c { s.chan c with state := st, value := v, edges := BitVec.ofNat 16 ((s.chan c).edges.toNat + inc) }
         if (s.chan c).state = st ∧ (s.chan c).value = v ∧ inc = 0 then t else (t.offer c inc).offerCombiners c)) ∧
  (∀ src : ChannelSource,
    src.exclusive = true ↔ (∃ n, src = .line n) ∨ (∃ m, src = .combiner m) ∨ ∃ k, src = .linkStat k) ∧
  ∀ (s : State) (src : ChannelSource) (st : Validity) (v : Bool) (inc : Bool → Nat), s.oneChannelPerSource → src.exclusive = true →
    ((∀ c, (s.chan c).source ≠ src) → s.updateBound src st v inc = s) ∧
    ∀ c, (s.chan c).source = src → s.updateBound src st v inc = s.change c st v (inc (s.chan c).value)

/-- R8, R32, R108, R184: the offer of a change of channel `c` reaches every consumer: output lines that follow it apply the driver rule,
links that are UP and export it take it into their pending change lists, and the event unit takes it as `offerEvents` says
(WatchedChangeQueuesOneNotice), its masks and alert settings staying; no other record and no other block is touched.

R108, R107: a taken offer merges in place into the one entry of its channel, edges adding up to 15 at most, or is appended at the
tail. -/
def Obligations.OfferReachesEachConsumer : Prop :=
  (∀ (s : State) (c : ChannelId) (inc : Nat),
     let t := s.offer c inc
     (∀ n, t.lineAt n =
       if (s.lineAt n).mode = .output ∧ (s.lineAt n).driver = .channel c then
         { s.lineAt n with drive := (s.lineAt n).driverRule s.chan }
       else s.lineAt n) ∧
     (∀ k, t.linkAt k =
       if (s.linkAt k).state = .up ∧ (s.linkAt k).exports c = true then
         { s.linkAt k with
           changes := mergeChange c (s.chan c).value (decide ((s.chan c).state = .valid)) inc (s.linkAt k).changes }
       else s.linkAt k) ∧
     (∀ k, (s.linkAt k).exports c = (s.linkAt k).exported.getLsbD c.val) ∧
     t.events = (s.offerEvents c inc).events ∧
     t.channels = s.channels ∧ t.combiners = s.combiners ∧ t.remote = s.remote ∧ t.executor = s.executor ∧ t.host = s.host ∧
     t.node = s.node ∧ t.held = s.held ∧ t.pending = s.pending ∧
     t.events.noticeMask = s.events.noticeMask ∧ t.events.alertMask = s.events.alertMask ∧
     t.events.alertChannel = s.events.alertChannel ∧ t.events.alertInvert = s.events.alertInvert) ∧
  ∀ (c : ChannelId) (v ok : Bool) (inc : Nat) (l : List ChangeEntry), (l.map ChangeEntry.channel).Nodup →
    mergeChange c v ok inc l =
      if c ∈ l.map ChangeEntry.channel then
        l.map fun e => if e.channel = c then ⟨c, v, ok, min 15 (e.edges + inc)⟩ else e
      else l ++ [⟨c, v, ok, min 15 inc⟩]

/-- R23, R184, R185, R191: the event unit's part of an offer. A watched change merges into the channel's CHANNEL notice, edges
saturating, or is queued where there is room, and is dropped where there is none; a change of the alert channel re-evaluates ALERTN. -/
def Obligations.WatchedChangeQueuesOneNotice : Prop :=
  ∀ (s : State) (c : ChannelId) (inc : Nat),
    let ch := s.chan c
    let queued (notices : List Notice) : State := { s with events := { s.events with notices := notices } }
    let t : State :=
      if ch.watch = false then s
      else if ∃ n ∈ s.events.notices, n.isChannel c = true then
        queued (s.events.notices.map fun
          | .channel d st v e =>
            if d = c then .channel c ch.state ch.value (BitVec.ofNat 16 (min 65535 (e.toNat + inc))) else .channel d st v e
          | n => n)
      else if s.events.notices.length < 16 then
        queued (s.events.notices ++ [.channel c ch.state ch.value (BitVec.ofNat 16 (min 65535 inc))])
      else s.dropNotice
    s.offerEvents c inc = if s.events.alertChannel = some c then t.evalAlert else t

/-- R9, R47, R48, R49: what a channel change leads to. The changed channel holds the update; every combiner with it as a member is
evaluated, and no other; a combiner's channel takes the new output, with increment 1 where the value moves; every other channel is as it
was. The laws of R11, R12 and R48 are premises, so that the statement is about no other states.

R9, R47, R48, R49: the combiner bank's part of an offer. Every combiner with the channel as a member is evaluated; then, in ascending
combiner number, each gives the update that its evaluation leads to. The consequent change that ends in writes the combiner's channel,
and where state, value or edges move it is offered to lines, links and the event unit; it leads to no further evaluation (log 14).

R4, R6, R9: what a channel change with all that follows from it leaves alone: of the channels, their source and watch; of the
lines, everything but the drive; of the links, everything but the pending change list; of the combiners, their settings; and the blocks
that are no consumers. -/
def Obligations.ChangeCarriesThroughCombiners : Prop :=
  (∀ (s : State) (c : ChannelId) (st : Validity) (v : Bool) (inc : Nat),
     s.oneChannelPerSource → s.noNesting → s.combinersGiveValues →
     ((s.chan c).state ≠ st ∨ (s.chan c).value ≠ v ∨ inc ≠ 0) →
     let t := s.change c st v inc
     t.chan c = { s.chan c with state := st, value := v, edges := (s.chan c).edges + BitVec.ofNat 16 inc } ∧
     (∀ m, t.comb m = if (s.comb m).hasMember c = true then (s.comb m).evaluate t.chan else s.comb m) ∧
     (∀ d m, d ≠ c → (s.chan d).source = .combiner m →
       t.chan d =
         { s.chan d with
           state := (t.comb m).outState
           value := (t.comb m).outValue
           edges := (s.chan d).edges + (if (t.comb m).outValue = (s.chan d).value then 0 else 1) }) ∧
     (∀ d, d ≠ c → (s.chan d).source.isCombiner = false → t.chan d = s.chan d)) ∧
  ((∀ (s : State) (c : ChannelId) (st : Validity) (v : Bool) (inc : Nat),
     s.changeConsequent c st v inc =
       let t := s.setChan c { s.chan c with state := st, value := v, edges := BitVec.ofNat 16 ((s.chan c).edges.toNat + inc) }
       if (s.chan c).state = st ∧ (s.chan c).value = v ∧ inc = 0 then t else t.offer c inc) ∧
   (∀ (c : ChannelId) (cb : Combiner), cb.hasMember c = true ↔ ∃ mb ∈ cb.members, mb.channel = c) ∧
   ∀ (s : State) (c : ChannelId), ∃ e : State,
     (∀ m, e.comb m = if (s.comb m).hasMember c = true then (s.comb m).evaluate s.chan else s.comb m) ∧
     e = { s with combiners := e.combiners } ∧
     s.offerCombiners c = (List.finRange 8).foldl (fun t m => t.giveCombinerUpdate m (s.comb m)) e) ∧
  ∀ (s : State) (c : ChannelId) (st : Validity) (v : Bool) (inc : Nat),
    let t := s.change c st v inc
    (∀ d, (t.chan d).source = (s.chan d).source ∧ (t.chan d).watch = (s.chan d).watch) ∧
    (∀ n, t.lineAt n = { s.lineAt n with drive := (t.lineAt n).drive }) ∧
    (∀ k, t.linkAt k = { s.linkAt k with changes := (t.linkAt k).changes }) ∧
    (∀ m, t.comb m = { s.comb m with outValue := (t.comb m).outValue, outValid := (t.comb m).outValid }) ∧
    t.remote = s.remote ∧ t.executor = s.executor ∧ t.host = s.host ∧ t.node = s.node ∧ t.held = s.held ∧
    t.pending = s.pending ∧ t.events.noticeMask = s.events.noticeMask ∧ t.events.alertMask = s.events.alertMask ∧
    t.events.alertChannel = s.events.alertChannel ∧ t.events.alertInvert = s.events.alertInvert

/-! ### Local lines -/

/-- R27, R28, R29: a sample of a line's pin, in every mode; with debounce 0 a level that differs is accepted in the sample's own event
(R30).

R28, R30: the expiry of an interval that has run out accepts the raw level; no interval, or time left in it, no expiry (log 2,
log 4). -/
def Obligations.SampleAndDebounceExpiry : Prop :=
  (∀ (n : LineId) (level : Bool) (s : State), s.held = false →
     exec (.lineSample n level) s = .next (State.settle (
       let l := s.lineAt n
       if l.mode ≠ .input then s.setLine n { l with raw := level, debounced := level }
       else if level = l.debounced then s.setLine n { l with raw := level, interval := none }
       else if l.debounce = 0 then
         (s.setLine n { l with raw := level, debounced := level, edges := l.edges + 1, interval := none }).updateBound (.line n)
           .valid (level ^^ l.inverted) fun _ => 1
       else s.setLine n { l with raw := level, interval := some (l.interval.getD l.debounce.toNat) }))) ∧
  ∀ (n : LineId) (s : State), s.held = false →
    ((s.lineAt n).interval ≠ some 0 → exec (.debounceExpiry n) s = .next s) ∧
    ((s.lineAt n).interval = some 0 → exec (.debounceExpiry n) s = .next (State.settle (
      let l := s.lineAt n
      (s.setLine n { l with debounced := l.raw, edges := l.edges + 1, interval := none }).updateBound (.line n) .valid
        (l.raw ^^ l.inverted) fun _ => 1)))

/-- R31, R33: the driver rule, for each driver, channel state and stale action.

R35, R26: the pin of a line, from its drive and its output type; in OFF mode no pull is connected. -/
def Obligations.DriverRuleAndPin : Prop :=
  (∀ (chan : ChannelId → Channel) (l : Line),
     (l.driver = .manual → l.driverRule chan = if (l.manual ^^ l.inverted) then .driving1 else .driving0) ∧
     ∀ c, l.driver = .channel c →
       ((chan c).state = .valid → l.driverRule chan = if ((chan c).value ^^ l.inverted) then .driving1 else .driving0) ∧
       ((chan c).state ≠ .valid →
         (l.stale = .hold → l.driverRule chan = l.drive) ∧ (l.stale = .low → l.driverRule chan = .driving0) ∧
         (l.stale = .high → l.driverRule chan = .driving1) ∧ (l.stale = .release → l.driverRule chan = .released))) ∧
  ∀ l : Line,
    (l.mode = .off → l.pin = .highImpedance .none) ∧
    (l.mode ≠ .off →
      (l.drive = .released → l.pin = .highImpedance l.pull) ∧
      (l.drive = .driving0 → l.pin = .drivenLow) ∧
      (l.drive = .driving1 → l.output = .pushPull → l.pin = .drivenHigh) ∧
      (l.drive = .driving1 → l.output = .openDrain → l.pin = .highImpedance l.pull))

/-- R36, R37, R38, R34: LINE_CONFIG, its checks and its effect for each change of mode. Leaving INPUT, the debounced level follows the
raw level at once (log 13, the model's choice of the moment). -/
def Obligations.LineConfigActsByModeChange : Prop :=
  ∀ (s : State) (g : Grant) (nb mode pull polarity debounce output idle driver stale manual : Byte),
    s.Grants g 0x0A [nb, mode, pull, polarity, debounce, output, idle, driver, stale, manual] →
    exec .lineConfig s = .next (
      match lineOf nb, lineSettingsOf mode pull polarity debounce output idle driver stale manual with
      | some n, some st =>
        if (∃ c, (s.chan c).source = .line n) ∧ st.mode ≠ .input then s.refusal g .conflict
        else
          let old := s.lineAt n
          let l : Line :=
            ⟨st.mode, st.pull, st.inverted, st.debounce, st.output, st.idle, st.driver, st.stale, st.manual, old.drive, old.raw,
              old.debounced, old.edges, old.interval⟩
          let t := s.takeGrant g
          State.okReply g [] (
            match old.mode, st.mode with
            | .input, .input =>
              (t.setLine n
                { l with
                  interval := none
                  debounced := old.raw
                  edges := old.edges + (if old.raw = old.debounced then 0 else 1) }).updateBound (.line n) .valid
                (old.raw ^^ st.inverted) fun before => if (old.raw ^^ st.inverted) = before then 0 else 1
            | _, .input => t.setLine n { l with drive := .released, interval := none }
            | _, .off => t.setLine n { l with drive := .released, interval := none, debounced := old.raw }
            | .output, .output => t.setLine n { l with drive := l.driverRule s.chan }
            | _, .output =>
              let e : Line :=
                { l with drive := if st.idle then .driving1 else .driving0, interval := none, debounced := old.raw }
              t.setLine n { e with drive := e.driverRule s.chan })
      | _, _ => s.refusal g .badArgument)

/-- R39: LINE_SET, its checks in order and its effect. -/
def Obligations.LineSetDrivesManualOutputs : Prop :=
  ∀ (s : State) (g : Grant) (nb v : Byte), s.Grants g 0x0B [nb, v] →
    exec .lineSet s = .next (
      match lineOf nb with
      | none => s.refusal g .badArgument
      | some n =>
        let l := s.lineAt n
        if 2 ≤ v.toNat then s.refusal g .badArgument
        else if l.mode = .output ∧ l.driver = .manual then
          State.okReply g []
            ((s.takeGrant g).setLine n
              { l with manual := v == 1, drive := if ((v == 1) ^^ l.inverted) then .driving1 else .driving0 })
        else s.refusal g .wrongState)

/-! ### Combiners -/

/-- R44: the input of a member: of a VALID channel the value xor the invert; else 1 under ASSERT, 0 under DEASSERT, and the held value
xor the invert under HOLD and PROPAGATE.

R45: with members, the output value is whether the inputs at 1 reach the threshold, xor the output invert; without, it is 0. It is a
function of the inputs alone: two evaluations that find the same inputs give the same value.

R46: the output valid, and the output state that follows from it and the member count. An evaluation writes nothing else. -/
def Obligations.CombinerEvaluation : Prop :=
  (∀ (policy : StalePolicy) (chan : ChannelId → Channel) (mb : Member),
     ((chan mb.channel).state = .valid → mb.input policy chan = ((chan mb.channel).value ^^ mb.invert)) ∧
     ((chan mb.channel).state ≠ .valid →
       (policy = .assert → mb.input policy chan = true) ∧ (policy = .deassert → mb.input policy chan = false) ∧
       (policy = .hold → mb.input policy chan = ((chan mb.channel).value ^^ mb.invert)) ∧
       (policy = .propagate → mb.input policy chan = ((chan mb.channel).value ^^ mb.invert)))) ∧
  ((∀ (chan : ChannelId → Channel) (cb : Combiner),
     (cb.members ≠ [] →
       (cb.evaluate chan).outValue =
         (decide (cb.threshold ≤ (cb.members.filter fun mb => mb.input cb.policy chan).length) ^^ cb.outInvert)) ∧
     (cb.members = [] → (cb.evaluate chan).outValue = false)) ∧
   ∀ (chan chan' : ChannelId → Channel) (cb : Combiner),
     (∀ mb ∈ cb.members, mb.input cb.policy chan = mb.input cb.policy chan') →
     (cb.evaluate chan).outValue = (cb.evaluate chan').outValue) ∧
  ∀ (chan : ChannelId → Channel) (cb : Combiner),
    let e := cb.evaluate chan
    (cb.members = [] → e.outValid = false ∧ e.outState = .unknown) ∧
    (cb.policy = .propagate → (∃ mb ∈ cb.members, (chan mb.channel).state ≠ .valid) →
      e.outValid = false ∧ e.outState = .stale) ∧
    (cb.members ≠ [] → (cb.policy ≠ .propagate ∨ ∀ mb ∈ cb.members, (chan mb.channel).state = .valid) →
      e.outValid = true ∧ e.outState = .valid) ∧
    e = { cb with outValue := e.outValue, outValid := e.outValid }

/-- R51, R52, R54: COMBINER_CONFIG and COMBINER_READ. `combinerSettingsOf` makes check 1 of R51.

R51 check 1: which fields of a COMBINER_CONFIG name settings: none where the output invert, the policy, a member channel or a member
invert names nothing, where a nonempty list comes with threshold 0 or one above its length, or where a channel stands twice.

R48: after an evaluation, the channel bound to the combiner is updated exactly when the output value or the output state differs,
with increment 1 where the value does; `changeConsequent` writes and offers it (ChangeCarriesThroughCombiners). The law of R11 is a
premise. -/
def Obligations.CombinerRequestsConfigureAndRead : Prop :=
  ((∀ (s : State) (g : Grant) (mb threshold invert policy count : Byte) (list : List Byte),
     s.Grants g 0x0D (mb :: threshold :: invert :: policy :: count :: list) →
     lengthFits 0x0D (mb :: threshold :: invert :: policy :: count :: list) = true →
     exec .combinerConfig s = .next (
       match combinerOf mb, combinerSettingsOf threshold invert policy list with
       | some m, some st =>
         if ∃ x ∈ st.members, (s.chan x.channel).source.isCombiner = true then s.refusal g .loop
         else
           let old := s.comb m
           let new : Combiner := Combiner.evaluate s.chan
             ⟨st.members, if st.members = [] then 1 else st.threshold.toNat, st.outInvert, st.policy, old.outValue, old.outValid⟩
           State.okReply g [if new.outValue then 1 else 0, if new.outValid then 1 else 0]
             (State.giveCombinerUpdate m old ((s.takeGrant g).setComb m new))
       | _, _ => s.refusal g .badArgument)) ∧
   ∀ (s : State) (g : Grant) (mb : Byte), s.Grants g 0x0E [mb] →
     exec .combinerRead s = .next (
       match combinerOf mb with
       | none => s.refusal g .badArgument
       | some m =>
         let cb := s.comb m
         let isValid (x : Member) : Bool := decide ((s.chan x.channel).state = .valid)
         State.okReply g
           ([mb, byteOfNat cb.threshold, if cb.outInvert then 1 else 0, cb.policy.code, byteOfNat cb.members.length] ++
             (cb.members.flatMap fun x => x.report (x.input cb.policy s.chan) (isValid x)) ++
             [byteOfNat (cb.members.filter fun x => x.input cb.policy s.chan).length,
              byteOfNat (cb.members.filter fun x => !isValid x).length, if cb.outValue then 1 else 0,
              if cb.outValid then 1 else 0])
           (s.takeGrant g))) ∧
  (∀ (threshold invert policy : Byte) (pairs : List (Byte × Byte)),
     let list := pairs.flatMap fun p => [p.1, p.2]
     (combinerSettingsOf threshold invert policy list = none ↔
       1 < invert.toNat ∨ 3 < policy.toNat ∨ (∃ p ∈ pairs, 64 ≤ p.1.toNat ∨ 1 < p.2.toNat) ∨
         (pairs ≠ [] ∧ (threshold = 0 ∨ pairs.length < threshold.toNat)) ∨ ¬(pairs.map Prod.fst).Nodup) ∧
     ∀ st, combinerSettingsOf threshold invert policy list = some st →
       st.threshold = threshold ∧ st.outInvert = (invert == 1) ∧ st.policy.code = policy ∧
       st.members.map (fun mb => ((byteOfNat mb.channel : Byte), mb.invert.toNat)) = pairs.map fun p => (p.1, p.2.toNat)) ∧
  ∀ (s : State) (m : CombinerId) (before : Combiner), s.oneChannelPerSource →
    let after := s.comb m
    (after.outValue = before.outValue → after.outState = before.outState → s.giveCombinerUpdate m before = s) ∧
    ((∀ c, (s.chan c).source ≠ .combiner m) → s.giveCombinerUpdate m before = s) ∧
    ∀ c, (s.chan c).source = .combiner m → (after.outValue ≠ before.outValue ∨ after.outState ≠ before.outState) →
      s.giveCombinerUpdate m before =
        s.changeConsequent c after.outState after.outValue (if after.outValue = before.outValue then 0 else 1)

/-! ### The event unit -/

/-- R179, R183: a raised cause of a set flag does nothing; of a clear flag, it sets the flag, queues an EVENT notice where the enable is
on (dropping it where the queue is full), and re-evaluates ALERTN.

R185: a dropped notice adds 1 to the lost count while NOTICE_LOST is set. While it is clear, NOTICE_LOST becomes set, ALERTN is
re-evaluated, and the count rises by 2 where NOTICE_LOST's own notice is enabled and dropped in turn, else by 1. -/
def Obligations.RaisedCauseSetsItsFlag : Prop :=
  (∀ (s : State) (f : Flag) (detail : Byte),
     (s.events.flags.getLsbD f.number = true → s.raise f detail = s) ∧
     (s.events.flags.getLsbD f.number = false →
       let t : State := { s with events := { s.events with flags := s.events.flags ||| BitVec.twoPow 31 f.number } }
       s.raise f detail = State.evalAlert (
         if s.events.noticeMask.getLsbD f.number = false then t
         else if s.events.notices.length < 16 then
           { t with events := { t.events with notices := s.events.notices ++ [.event f detail] } }
         else t.dropNotice))) ∧
  ∀ s : State,
    let lostAfter (n : Nat) : Word16 := BitVec.ofNat 16 (min 65535 (s.events.lost.toNat + n))
    s.dropNotice =
      if s.events.flags.getLsbD 4 = true then { s with events := { s.events with lost := lostAfter 1 } }
      else State.evalAlert
        { s with events := { s.events with
          flags := s.events.flags ||| 16
          lost := if s.events.noticeMask.getLsbD 4 = true then lostAfter 2 else lostAfter 1 } }

/-! ### Link sessions -/

/-- R73 to R76: LINK_CONTROL with each of its three actions: the checks in order, and the transition.

R58, R71, R75: what entry into SEEKING, OFF and FAULT makes of a link engine. Every field not named is kept. -/
def Obligations.LinkControlMovesTheSession : Prop :=
  (∀ (s : State) (g : Grant) (kb : Byte),
     (s.Grants g 0x0F [kb, 1] → exec .linkControlEnable s = .next (
       match linkOf kb with
       | none => s.refusal g .badArgument
       | some k =>
         if (s.linkAt k).state ≠ .off then s.refusal g .wrongState
         else if s.node = 0 then s.refusal g .notReady
         else State.okReply g [] ((s.takeGrant g).modLink k Link.toSeeking))) ∧
     (s.Grants g 0x0F [kb, 2] → exec .linkControlDisable s = .next (
       match linkOf kb with
       | none => s.refusal g .badArgument
       | some k =>
         State.okReply g [] (
           if (s.linkAt k).state = .off then s.takeGrant g
           else if (s.linkAt k).state = .up then (s.takeGrant g).leaveUp k Link.toOff
           else (s.takeGrant g).modLink k Link.toOff))) ∧
     (s.Grants g 0x0F [kb, 3] → exec .linkControlRestart s = .next (
       match linkOf kb with
       | none => s.refusal g .badArgument
       | some k =>
         if (s.linkAt k).state = .off then s.refusal g .wrongState
         else State.okReply g [] (
           if (s.linkAt k).state = .up then (s.takeGrant g).leaveUp k Link.toSeeking
           else (s.takeGrant g).modLink k Link.toSeeking))) ∧
     ∀ (a : Byte) (row : Instr), s.Grants g 0x0F [kb, a] → a = 0 ∨ 3 < a.toNat →
       row ∈ [Instr.linkControlEnable, .linkControlDisable, .linkControlRestart] → exec row s = .next (s.refusal g .badArgument)) ∧
  ∀ (l : Link) (cause : FaultCause),
    l.toSeeking =
      { l with
        state := .seeking, session := l.session + 1, seen := false, peerNode := none, peerSession := 0, peerWindow := 0,
        helloOwed := true, helloTimer := some 100, keepaliveTimer := none, silenceTimer := none, holdOffTimer := none,
        keepaliveDue := false } ∧
    l.toOff =
      { l with
        state := .off, helloOwed := false, helloTimer := none, keepaliveTimer := none, silenceTimer := none,
        holdOffTimer := none, keepaliveDue := false } ∧
    l.toFault cause =
      { l with
        state := .fault, lastFault := cause, helloOwed := false, helloTimer := none, keepaliveTimer := none,
        silenceTimer := none, holdOffTimer := some 1000, keepaliveDue := false }

/-- R67 to R70: leaving UP, for each new state: the transport is cleared, with sequence numbers, counters, export set, configuration and
policy kept, and the slot is emptied; imported channels become STALE; the link-status channel becomes 0; remote entries are resolved;
other channels but combiners' keep their records, and other links all but their pending lists. The channels are updated, and with that
offered, in ascending order, the link-status channel last (R69). The law of R11 is a premise.

R70: the remote entries of a link that leaves UP: QUEUED and SENT become DONE with LINK_DOWN, joining the done order in acceptance
order; ORPHAN entries are freed; DONE entries lose their mark; entries of other links stay. -/
def Obligations.LeavingUpResolvesTheSession : Prop :=
  (∀ (s : State) (k : LinkId) (move : Link → Link) (cause : FaultCause),
     move ∈ [Link.toSeeking, Link.toOff, Link.toFault cause] → s.oneChannelPerSource →
     let t := s.leaveUp k move
     (let cleared := s.modLink k fun l =>
         { move l with
           queue := [], retransmitTimer := none, retryCount := 0, resendPoint := none, changes := [], ackOwed := false,
           ackDue := false, ackTimer := none }
       let staled := (List.finRange 64).foldl (fun u c => u.update (.link k) c .stale (u.chan c).value 0) cleared
       let told := staled.updateBound (.linkStat k) .valid false fun before => if before then 1 else 0
       t = State.modLink k (fun l => { l with slot := .empty }) { told with remote := RemoteTable.linkDown k told.remote }) ∧
     t.linkAt k =
       { move (s.linkAt k) with
         queue := [], retransmitTimer := none, retryCount := 0, resendPoint := none, changes := [], ackOwed := false,
         ackDue := false, ackTimer := none, slot := .empty } ∧
     (∀ c, (s.chan c).source = .link k → t.chan c = { s.chan c with state := .stale }) ∧
     (∀ c, (s.chan c).source = .linkStat k →
       t.chan c =
         { s.chan c with
           state := .valid, value := false, edges := (s.chan c).edges + (if (s.chan c).value = true then 1 else 0) }) ∧
     (∀ c, (s.chan c).source ≠ .link k → (s.chan c).source ≠ .linkStat k → (s.chan c).source.isCombiner = false →
       t.chan c = s.chan c) ∧
     (∀ k', k' ≠ k → t.linkAt k' = { s.linkAt k' with changes := (t.linkAt k').changes }) ∧
     t.remote = RemoteTable.linkDown k s.remote ∧
     t.executor = s.executor ∧ t.host = s.host ∧ t.node = s.node ∧ t.held = s.held ∧ t.pending = s.pending) ∧
  ∀ (k : LinkId) (t : RemoteTable),
    (RemoteTable.linkDown k t).entries =
      (t.entries.filter fun e => ¬(e.link = k ∧ e.state = .orphan)).map (fun e =>
        if e.link ≠ k then e
        else if e.state = .done then { e with orphanMark := false }
        else { e with state := .done, status := 0x0C, data := [], orphanMark := false, timer := none }) ∧
    (RemoteTable.linkDown k t).doneOrder =
      t.doneOrder ++ (t.entries.filter fun e => e.link = k ∧ (e.state = .queued ∨ e.state = .sent)).map RemoteEntry.tag ∧
    (RemoteTable.linkDown k t).nextTag = t.nextTag ∧ (RemoteTable.linkDown k t).lateCount = t.lateCount

/-- R61: a CRC-good HELLO received in SEEKING: its five steps in order.

R63, R110: entry into UP: the transport starts from 0, the two timers start, one HELLO is owed, the pending change list receives one
snapshot entry for each exported channel in ascending order; then the link-status channel is updated to 1, and LINK_UP_k is raised with
the peer node.

R64: a CRC-good HELLO received in UP: one of the present session is not answered when its seen is 2, and else makes a HELLO owed; one
of node 0 or 255 is ignored; any other ends the session, raises PEER_RESTART_k, and is taken as the first HELLO of the new SEEKING. -/
def Obligations.HelloMovesTheSession : Prop :=
  (∀ (s : State) (k : LinkId) (h : Hello), (s.linkAt k).state = .seeking →
     s.helloInSeeking k h =
       if h.node = 0 ∨ h.node = 255 then s
       else
         let t := s.modLink k fun l =>
           { l with peerNode := some h.node, peerSession := h.session, peerWindow := h.window, seen := true }
         if h.version ≠ 1 then (t.modLink k (Link.toFault .version)).raise (.linkFault k) 3
         else if h.node = s.node then (t.modLink k (Link.toFault .selfLoop)).raise (.linkFault k) 2
         else if h.seen ≠ 0 ∧ h.echo = (s.linkAt k).session then t.enterUp k
         else t) ∧
  (∀ (s : State) (k : LinkId),
     s.enterUp k =
       ((s.modLink k fun l =>
           { l with
             state := .up, helloTimer := none, holdOffTimer := none, helloOwed := true, keepaliveDue := false, nextSend := 0,
             nextExpected := 0, silenceTimer := some (100 * l.config.silence.toNat),
             keepaliveTimer := some (10 * l.config.keepalive.toNat)
             changes := l.changes ++
               (List.finRange 64).filterMap fun c : ChannelId =>
                 if l.exported.getLsbD c.val then
                   some ⟨c, (s.chan c).value, decide ((s.chan c).state = .valid), 0⟩
                 else none }).updateBound (.linkStat k) .valid true fun before => if before then 0 else 1).raise (.linkUp k)
         ((s.linkAt k).peerNode.getD 0)) ∧
  ∀ (s : State) (k : LinkId) (h : Hello), (s.linkAt k).state = .up →
    let l := s.linkAt k
    s.helloInUp k h =
      if h.version = 1 ∧ l.peerNode = some h.node ∧ h.session = l.peerSession ∧ h.seen ≠ 0 ∧ h.echo = l.session then
        if h.seen = 2 then s else s.modLink k fun l => { l with helloOwed := true }
      else if h.node = 0 ∨ h.node = 255 then s
      else ((s.leaveUp k Link.toSeeking).raise (.peerRestart k) 0).helloInSeeking k h

/-- R77, R78: LINK_CONFIG and LINK_POLICY, their checks in order and their effect.

R79, R105: LINK_STATUS answers the session; LINK_EXPORT is refused with LOOP where the set holds an imported channel of the link, and
else replaces the set, deletes the entries of removed channels and, in UP, appends snapshot entries of added ones in ascending order. -/
def Obligations.LinkRequestsConfigureAndRead : Prop :=
  ((∀ (s : State) (g : Grant) (kb keepalive silence retransmit maxRetries window auto : Byte),
     s.Grants g 0x10 [kb, keepalive, silence, retransmit, maxRetries, window, auto] →
     exec .linkConfig s = .next (
       match linkOf kb with
       | none => s.refusal g .badArgument
       | some k =>
         if 5 ≤ keepalive.toNat ∧ keepalive.toNat ≤ 250 ∧ 2 ≤ silence.toNat ∧ 2 ≤ retransmit.toNat ∧ 1 ≤ maxRetries.toNat ∧
             maxRetries.toNat ≤ 15 ∧ 1 ≤ window.toNat ∧ window.toNat ≤ 8 ∧ auto.toNat ≤ 1 ∧
             2 * keepalive.toNat ≤ 10 * silence.toNat then
           if (s.linkAt k).state = .seeking ∨ (s.linkAt k).state = .up then s.refusal g .wrongState
           else State.okReply g []
             ((s.takeGrant g).modLink k fun l =>
               { l with config := ⟨keepalive, silence, retransmit, maxRetries, window, auto == 1⟩ })
         else s.refusal g .badArgument)) ∧
   ∀ (s : State) (g : Grant) (kb p : Byte), s.Grants g 0x11 [kb, p] →
     exec .linkPolicy s = .next (
       match linkOf kb with
       | none => s.refusal g .badArgument
       | some k =>
         if p = 0 then State.okReply g [] ((s.takeGrant g).modLink k fun l => { l with policy := .none })
         else if p = 1 then State.okReply g [] ((s.takeGrant g).modLink k fun l => { l with policy := .observe })
         else if p = 2 then State.okReply g [] ((s.takeGrant g).modLink k fun l => { l with policy := .operate })
         else if p = 3 then State.okReply g [] ((s.takeGrant g).modLink k fun l => { l with policy := .full })
         else s.refusal g .badArgument)) ∧
  (∀ (s : State) (g : Grant) (kb : Byte), s.Grants g 0x12 [kb] →
    exec .linkStatus s = .next (
      match linkOf kb with
      | none => s.refusal g .badArgument
      | some k =>
        let l := s.linkAt k
        State.okReply g
          [kb, l.state.code, l.session, match l.peerNode with | none => 0 | some n => n, l.peerSession, l.peerWindow,
            l.lastFault.code, l.policy.code, byteOfNat l.queue.length, byteOfNat l.changes.length, l.config.keepalive,
            l.config.silence, l.config.retransmit, l.config.maxRetries, l.config.window,
            if l.config.autoRestart then 1 else 0]
          (s.takeGrant g))) ∧
  ∀ (s : State) (g : Grant) (kb count : Byte) (bytes : List Byte), s.Grants g 0x13 (kb :: count :: bytes) →
    lengthFits 0x13 (kb :: count :: bytes) = true →
    exec .linkExport s = .next (
      match linkOf kb with
      | none => s.refusal g .badArgument
      | some k =>
        let named (c : ChannelId) : Bool := (bytes.getD (c.val / 8) 0).getLsbD (c.val % 8)
        if ∃ c, named c = true ∧ (s.chan c).source = .link k then s.refusal g .loop
        else State.okReply g []
          ((s.takeGrant g).modLink k fun l =>
            { l with
              exported := channelsOfBytes bytes
              changes := (l.changes.filter fun e => named e.channel) ++
                (if l.state = .up then
                  (List.finRange 64).filterMap fun c : ChannelId =>
                    if named c && !l.exports c then some ⟨c, (s.chan c).value, decide ((s.chan c).state = .valid), 0⟩ else none
                else []) }))

/-- R58, R65, R72, R90, R97, R197: the timers of a link and the end of a frame: what the expiry of a timer that has run out does, and that
there is none while the timer is stopped or has time left (log 2, log 4).

R66, R67, R94, R71: the silence timer ends the session and raises LINK_LOST_k; the retransmit timer counts, and begins a go-back from
the oldest record, or at the retry limit faults the link with RETRY_LIMIT.

R96: of an ack that removes records and an expiry of the retransmit timer, the ack is taken first: the timer has started again, or
stopped with an empty queue, so the expiry does not occur and no go-back begins. Taken first, the expiry is that of R94
(SilenceAndRetransmitExpiries). The retransmit timeout of R77, at least 2 ms, is a premise. -/
def Obligations.LinkTimersAndFrameEnd : Prop :=
  (∀ (k : LinkId) (s : State), s.held = false →
     let l := s.linkAt k
     exec (.linkFramerGapExpiry k) s = .next (
       if l.gapTimer ≠ some 0 then s else State.settle (s.modLink k fun l => { l with framer := .hunting, gapTimer := none })) ∧
     exec (.helloTimerExpiry k) s = .next (
       if l.helloTimer ≠ some 0 then s
       else State.settle (s.modLink k fun l => { l with helloOwed := true, helloTimer := some 100 })) ∧
     exec (.keepaliveTimerExpiry k) s = .next (
       if l.keepaliveTimer ≠ some 0 then s
       else State.settle (s.modLink k fun l => { l with keepaliveDue := true, keepaliveTimer := none })) ∧
     exec (.holdOffExpiry k) s = .next (
       if l.holdOffTimer ≠ some 0 then s
       else State.settle (s.modLink k fun l =>
         if l.config.autoRestart then l.toSeeking else { l with holdOffTimer := none })) ∧
     exec (.ackTimerExpiry k) s = .next (
       if l.ackTimer ≠ some 0 then s else State.settle (s.modLink k fun l => { l with ackDue := true, ackTimer := none })) ∧
     exec (.linkTxEnd k) s = .next (
       if l.line = none then s else State.settle (s.modLink k fun l => { l with line := none }))) ∧
  (∀ (k : LinkId) (s : State), s.held = false →
     let l := s.linkAt k
     exec (.silenceTimerExpiry k) s = .next (
       if l.silenceTimer ≠ some 0 then s else State.settle ((s.leaveUp k Link.toSeeking).raise (.linkLost k) 0)) ∧
     exec (.retransmitTimerExpiry k) s = .next (
       if l.retransmitTimer ≠ some 0 then s
       else State.settle (
         let t := s.modLink k fun l =>
           { l with
             retryCount := l.retryCount + 1
             counters := { l.counters with
               timerExpiries := BitVec.ofNat 16 (min 65535 (l.counters.timerExpiries.toNat + 1)) } }
         if l.config.maxRetries.toNat < l.retryCount + 1 then
           State.raise (.linkFault k) 1
             (if l.state = .up then t.leaveUp k (Link.toFault .retryLimit) else t.modLink k (Link.toFault .retryLimit))
         else t.modLink k fun l =>
           { l with
             resendPoint := some (match l.queue with | [] => l.nextSend | r :: _ => r.seq)
             retransmitTimer := some (10 * l.config.retransmit.toNat) }))) ∧
  ∀ (k : LinkId) (s : State) (a : Byte),
    let l := s.linkAt k
    let o := match l.queue with | [] => l.nextSend | r :: _ => r.seq
    2 ≤ l.config.retransmit.toNat → distance o a ≠ 0 → distance o a ≤ distance o l.nextSend →
      let t := s.modLink k (Link.takeAck a)
      exec (.retransmitTimerExpiry k) t = .next t ∧ exec (.retransmitTimerExpiry k) t.settle = .next t.settle

/-! ### Reliable delivery -/

/-- R83: the distance from one number to another is the number of steps of 1, wrapping, that lead from the first to the second; it lies
between 0 and 255. -/
def Obligations.DistanceCountsSteps : Prop :=
  (∀ x y : Byte, distance x y ≤ 255 ∧ x + BitVec.ofNat 8 (distance x y) = y ∧
    ∀ n < distance x y, x + BitVec.ofNat 8 n ≠ y) ∧
  distance 40 43 = 3 ∧ distance 254 1 = 3 ∧ distance 43 40 = 253

/-- R197, R84: a byte on a link line, reported by either of the two rows, is taken by the framer; a frame that it completes is taken in
the same event.

R197, log 23: a LEN above 64 drops the frame, and hunting resumes at the byte after its start byte: the first start byte among the
four header bytes starts a frame anew. -/
def Obligations.LinkBytesAreFramed : Prop :=
  ((∀ (k : LinkId) (b : Byte) (s : State), s.held = false →
     exec (.linkByteReceived k b) s = .next (s.linkByte k b).settle ∧
     exec (.linkFrameReceived k b) s = .next (s.linkByte k b).settle) ∧
   ∀ (k : LinkId) (b : Byte) (s : State),
     let framed (f : LinkFramer) (gap : Timer) : State := s.modLink k fun l => { l with framer := f, gapTimer := gap }
     ((s.linkAt k).framer = .hunting →
       s.linkByte k b = if b = 0xC3 then framed (.header []) (some 10) else framed .hunting none) ∧
     (∀ got, (s.linkAt k).framer = .header got → got.length < 3 →
       s.linkByte k b = framed (.header (got ++ [b])) (some 10)) ∧
     (∀ got, (s.linkAt k).framer = .header got → got.length = 3 → b.toNat ≤ 64 →
       s.linkByte k b = framed (.body (got ++ [b]) (b.toNat + 2)) (some 10)) ∧
     (∀ got due, (s.linkAt k).framer = .body got due → 2 ≤ due →
       s.linkByte k b = framed (.body (got ++ [b]) (due - 1)) (some 10)) ∧
     ∀ kind seq ack len rest due, (s.linkAt k).framer = .body (kind :: seq :: ack :: len :: rest) due → due ≤ 1 →
       let body := (rest ++ [b]).take len.toNat
       s.linkByte k b = (framed .hunting none).takeFrame k ⟨kind, seq, ack, body⟩
         (decide ((rest ++ [b]).drop len.toNat = bytesOf16 (crc16 (kind :: seq :: ack :: len :: body))) &&
           linkLengthFits kind body.length)) ∧
  ∀ (k : LinkId) (b0 b1 b2 len : Byte) (s : State), (s.linkAt k).framer = .header [b0, b1, b2] → 64 < len.toNat →
    s.linkByte k len = s.modLink k fun l =>
      if b0 = 0xC3 then { l with framer := .header [b1, b2, len], gapTimer := some 10 }
      else if b1 = 0xC3 then { l with framer := .header [b2, len], gapTimer := some 10 }
      else if b2 = 0xC3 then { l with framer := .header [len], gapTimer := some 10 }
      else if len = 0xC3 then { l with framer := .header [], gapTimer := some 10 }
      else { l with framer := .hunting, gapTimer := none }

/-- R84, R85, R57: a completed frame, by the state of the link: discarded unexamined in OFF and FAULT; a frame that fails the check counts
as a CRC error and raises LINK_CRC_k; a good one is counted, and in UP restarts the silence timer and has its ack field taken before its
own handling. -/
def Obligations.ReceivedFrameBySessionState : Prop :=
  ∀ (s : State) (k : LinkId) (f : LinkFrame) (good : Bool),
    let l := s.linkAt k
    let counted (l : Link) : Link :=
      { l with counters := { l.counters with
          receivedGood := BitVec.ofNat 16 (min 65535 (l.counters.receivedGood.toNat + 1)) } }
    (l.state = .off ∨ l.state = .fault → s.takeFrame k f good = s) ∧
    (l.state = .seeking ∨ l.state = .up → good = false →
      s.takeFrame k f good =
        (s.modLink k fun l =>
          { l with counters := { l.counters with
              crcErrors := BitVec.ofNat 16 (min 65535 (l.counters.crcErrors.toNat + 1)) } }).raise (.linkCrc k) 0) ∧
    (l.state = .seeking → good = true → f.kind ≠ 1 → s.takeFrame k f good = s.modLink k counted) ∧
    (l.state = .seeking → good = true → f.kind = 1 → ∀ v n ss sn ec w, f.body = [v, n, ss, sn, ec, w] →
      s.takeFrame k f good = (s.modLink k counted).helloInSeeking k ⟨v, n, ss, sn, ec, w⟩) ∧
    (l.state = .up → good = true →
      let t := s.modLink k fun l =>
        Link.takeAck f.ack { counted l with silenceTimer := some (100 * l.config.silence.toNat) }
      (f.kind = 2 → s.takeFrame k f good = t) ∧
      (f.kind = 1 → ∀ v n ss sn ec w, f.body = [v, n, ss, sn, ec, w] →
        s.takeFrame k f good = t.helloInUp k ⟨v, n, ss, sn, ec, w⟩) ∧
      (f.kind = 3 → s.takeFrame k f good = t.classify k .change f.seq f.body) ∧
      (f.kind = 4 → s.takeFrame k f good = t.classify k .rreq f.seq f.body) ∧
      (f.kind = 5 → s.takeFrame k f good = t.classify k .rres f.seq f.body))

/-- R86, R87: an ack field. With `o` the oldest unacknowledged number and `n` the next send number: valid when the distance from `o` to
it is no greater than that from `o` to `n`; a valid one removes as many records as its distance, and what it does beside depends on
whether records remain; one that is not valid is counted and ignored. -/
def Obligations.AckFieldRemovesRecords : Prop :=
  ∀ (l : Link) (a : Byte),
    let o := match l.queue with | [] => l.nextSend | r :: _ => r.seq
    let d := distance o a
    (distance o l.nextSend < d →
      Link.takeAck a l =
        { l with counters := { l.counters with badAcks := BitVec.ofNat 16 (min 65535 (l.counters.badAcks.toNat + 1)) } }) ∧
    (d = 0 → Link.takeAck a l = l) ∧
    (d ≤ distance o l.nextSend → d ≠ 0 → l.queue.drop d = [] →
      Link.takeAck a l = { l with queue := [], retryCount := 0, retransmitTimer := none, resendPoint := none }) ∧
    ∀ r rest, d ≤ distance o l.nextSend → d ≠ 0 → l.queue.drop d = r :: rest →
      Link.takeAck a l =
        { l with
          queue := r :: rest
          retryCount := 0
          retransmitTimer := some (10 * l.config.retransmit.toNat)
          resendPoint := match l.resendPoint with | none => none | some p => if distance o p < d then some r.seq else some p }

/-- R88, R89, R90: a data frame received in UP is accepted, a duplicate or out of order by its number; each makes an ack owed, the ack
timer starting if it is not running; only an accepted frame is handed on, after the next expected number has moved (log 20).

R89, R115, R116, R117, R138: what each accepted data frame does: a CHANGE applies its entries in frame order, each as an update from
LINK k or as a stray; an RREQ enters an EMPTY slot or is a stray; a stray counts and raises LINK_STRAY_k. -/
def Obligations.DataFramesReachTheirConsumers : Prop :=
  (∀ (s : State) (k : LinkId) (kind : DataKind) (seq : Byte) (body : List Byte),
     let l := s.linkAt k
     let owed (l : Link) : Link :=
       { l with ackOwed := true, ackTimer := match l.ackTimer with | none => some 20 | some t => some t }
     (seq = l.nextExpected →
       s.classify k kind seq body = (s.modLink k fun l => owed { l with nextExpected := l.nextExpected + 1 }).handOn k kind body) ∧
     (1 ≤ distance seq l.nextExpected → distance seq l.nextExpected ≤ 8 →
       s.classify k kind seq body = s.modLink k fun l =>
         owed { l with counters := { l.counters with
           duplicates := BitVec.ofNat 16 (min 65535 (l.counters.duplicates.toNat + 1)) } }) ∧
     (8 < distance seq l.nextExpected →
       s.classify k kind seq body = s.modLink k fun l =>
         owed { l with counters := { l.counters with
           outOfOrder := BitVec.ofNat 16 (min 65535 (l.counters.outOfOrder.toNat + 1)) } })) ∧
  (∀ (s : State) (k : LinkId) (b0 b1 : Byte) (rest : List Byte),
    s.handOn k .change (b0 :: b1 :: rest) =
      let c : ChannelId := Fin.ofNat 64 (b0.toNat % 64)
      let edges := b1.toNat % 16
      let value := b0.getLsbD 7
      State.handOn k .change rest
        (if (s.chan c).source = .link k then
          s.change c (if b0.getLsbD 6 then .valid else .stale) value
            (if edges = 0 then (if value = (s.chan c).value then 0 else 1) else edges)
        else s.stray k)) ∧
  (∀ (s : State) (k : LinkId), s.handOn k .change [] = s) ∧
  (∀ (s : State) (k : LinkId) (tag kind : Byte) (body : List Byte),
    s.handOn k .rreq (tag :: kind :: body) =
      if (s.linkAt k).slot = .empty then s.modLink k fun l => { l with slot := .waiting tag kind body } else s.stray k) ∧
  ∀ (s : State) (k : LinkId),
    s.stray k =
      (s.modLink k fun l =>
        { l with counters := { l.counters with
            strayEntries := BitVec.ofNat 16 (min 65535 (l.counters.strayEntries.toNat + 1)) } }).raise (.linkStray k) 0

/-- R97, R95, R91: the transmit arbiter's choice: none while the line is busy or in OFF and FAULT; an owed HELLO in SEEKING; in UP the
first that applies of HELLO, resend, RRES, RREQ, CHANGE and ACK. The choice is shown by the call that begins the frame. -/
def Obligations.TransmitArbiterRanks : Prop :=
  ∀ (s : State) (k : LinkId),
    let l := s.linkAt k
    let room := l.queue.length < l.config.window.toNat
    s.linkArbiter k =
      if l.line ≠ none ∨ l.state = .off ∨ l.state = .fault then s
      else if l.helloOwed = true then s.modLink k (Link.sendHello s.node)
      else if l.state = .seeking then s
      else
        match l.resendPoint, l.slot, s.remote.mayLeave k with
        | some p, _, _ => s.modLink k (Link.resend p)
        | none, .replied tag kind status data, _ =>
          if room then
            s.modLink k fun l => Link.sendData .rres (tag :: kind :: status :: data) { l with slot := .empty }
          else if l.ackDue = true ∨ l.keepaliveDue = true then s.modLink k Link.sendAck else s
        | none, _, some e =>
          if room then
            State.modLink k (Link.sendData .rreq (e.tag :: e.kind :: e.body))
              { s with remote := { s.remote with
                  entries := s.remote.entries.map fun x => if x.tag = e.tag then { x with state := .sent } else x } }
          else if l.ackDue = true ∨ l.keepaliveDue = true then s.modLink k Link.sendAck else s
        | none, _, none =>
          if room ∧ l.changes ≠ [] then s.modLink k Link.sendChanges
          else if l.ackDue = true ∨ l.keepaliveDue = true then s.modLink k Link.sendAck else s

/-- R60, R82, R91, R95, R98, R99, R112: each kind of frame that begins in UP: the bytes that then stand on the line, the ack paid, the
keepalive timer restarted, the counter that counts it, and for a new data frame the record it leaves in the retransmit queue.

R58, R60, R82, R98: the HELLO that begins in SEEKING: seen and echo as recorded, ack field 0, no ack paid and no timer touched. -/
def Obligations.BeginningFrames : Prop :=
  (∀ l : Link, l.state = .up →
     let begun (l : Link) (f : LinkFrame) : Link :=
       { l with
         line := some f.bytes, ackOwed := false, ackDue := false, ackTimer := none,
         keepaliveTimer := some (10 * l.config.keepalive.toNat), keepaliveDue := false }
     let sent (l : Link) : Link :=
       { l with counters := { l.counters with sent := BitVec.ofNat 16 (min 65535 (l.counters.sent.toNat + 1)) } }
     (∀ node, Link.sendHello node l =
       sent { begun l ⟨1, 0, l.nextExpected, [1, node, l.session, 2, l.peerSession, l.config.window]⟩ with helloOwed := false }) ∧
     Link.sendAck l = sent (begun l ⟨2, 0, l.nextExpected, []⟩) ∧
     (∀ kind body, Link.sendData kind body l =
       let queued : Link :=
         { l with
           queue := l.queue ++ [⟨l.nextSend, kind, body⟩]
           nextSend := l.nextSend + 1
           retryCount := if l.queue = [] then 0 else l.retryCount
           retransmitTimer := if l.queue = [] then some (10 * l.config.retransmit.toNat) else l.retransmitTimer }
       sent (begun queued
         ⟨match kind with | .change => 3 | .rreq => 4 | .rres => 5, l.nextSend, l.nextExpected, body⟩)) ∧
     Link.sendChanges l =
       Link.sendData .change ((l.changes.take 6).flatMap ChangeEntry.bytes) { l with changes := l.changes.drop 6 } ∧
     ∀ p r, (l.queue.find? fun r => r.seq == p) = some r →
       Link.resend p l =
         { begun l ⟨match r.kind with | .change => 3 | .rreq => 4 | .rres => 5, r.seq, l.nextExpected, r.body⟩ with
           resendPoint := if p + 1 = l.nextSend then none else some (p + 1)
           counters := { l.counters with resent := BitVec.ofNat 16 (min 65535 (l.counters.resent.toNat + 1)) } }) ∧
  ∀ (l : Link) (node : Byte), l.state = .seeking →
    Link.sendHello node l =
      { l with
        helloOwed := false
        line := some (LinkFrame.bytes ⟨1, 0, 0,
          [1, node, l.session, if l.seen then 1 else 0, if l.seen then l.peerSession else 0, l.config.window]⟩)
        counters := { l.counters with sent := BitVec.ofNat 16 (min 65535 (l.counters.sent.toNat + 1)) } }

/-! ### Remote requests -/

/-- R126, R127: REMOTE_SEND, its checks in order; an accepted one makes a QUEUED entry at the tail of the acceptance order with its timer
running, moves the tag counter past its tag, and answers the tag.

R125: the tag given is the first one from the tag counter on, wrapping, that no entry holds. -/
def Obligations.RemoteSendAcceptsAnEntry : Prop :=
  (∀ (s : State) (g : Grant) (kb timeout kind : Byte) (body : List Byte), s.Grants g 0x15 (kb :: timeout :: kind :: body) →
     body.length ≤ 57 →
     exec .remoteSend s = .next (
       match linkOf kb with
       | none => s.refusal g .badArgument
       | some k =>
         if timeout = 0 ∨ kind = 0x15 then s.refusal g .badArgument
         else if (s.linkAt k).state ≠ .up then s.refusal g .linkNotUp
         else if 6 ≤ s.remote.entries.length then s.refusal g .busy
         else
           let tag := s.remote.freshTag
           State.okReply g [tag]
             { s.takeGrant g with
               remote := { s.remote with
                 entries := s.remote.entries ++ [⟨tag, k, kind, body, timeout, .queued, false, 0, [], some (100 * timeout.toNat)⟩]
                 nextTag := tag + 1 } })) ∧
  ∀ t : RemoteTable, t.entries.length ≤ 6 →
    t.freshTag ∉ t.entries.map RemoteEntry.tag ∧
    ∀ i < distance t.nextTag t.freshTag, t.nextTag + BitVec.ofNat 8 i ∈ t.entries.map RemoteEntry.tag

/-- R131, log 2: the timer of an entry expires: it becomes DONE with TIMEOUT and no data, with the orphan mark where it was SENT, joins
the done order, and REMOTE_TIMEOUT is raised; without an entry of that tag whose timer has run out (log 4) nothing happens.

R130, R132, R133: an accepted RRES: it ends the SENT entry that it matches; it is a late answer to a DONE entry with the mark or an
ORPHAN, which counts and raises LATE_REPLY; and it is a stray in every other case.

R124, R128: the entry of a link whose RREQ may leave: the first QUEUED one in acceptance order, and none while an entry of the link
is SENT, DONE with the mark, or ORPHAN. -/
def Obligations.EntriesEndByAnswerOrTimeout : Prop :=
  (∀ (tag : Byte) (s : State), s.held = false →
     ((∀ e, s.remote.entries.find? (fun e => e.tag == tag) = some e → e.timer ≠ some 0) →
       exec (.remoteEntryTimeout tag) s = .next s) ∧
     ∀ e, s.remote.entries.find? (fun e => e.tag == tag) = some e → e.timer = some 0 →
       exec (.remoteEntryTimeout tag) s = .next (State.settle (State.raise .remoteTimeout 0
         { s with remote := { s.remote with
             entries := s.remote.entries.map fun x =>
               if x.tag = tag then
                 { x with
                   state := .done, status := 0x0B, data := [], orphanMark := decide (e.state = .sent), timer := none }
               else x
             doneOrder := s.remote.doneOrder ++ [tag] } }))) ∧
  (∀ (s : State) (k : LinkId) (tag kind status : Byte) (data : List Byte),
     let found := s.remote.entries.find? fun e => e.tag == tag && e.link == k && e.kind == kind
     let late (entries : List RemoteEntry) : State := State.raise .lateReply 0
       { s with remote := { s.remote with
           entries := entries
           lateCount := BitVec.ofNat 16 (min 65535 (s.remote.lateCount.toNat + 1)) } }
     s.handOn k .rres (tag :: kind :: status :: data) =
       match found with
       | none => s.stray k
       | some e =>
         if e.state = .sent then
           { s with remote := { s.remote with
               entries := s.remote.entries.map fun x =>
                 if x.tag = tag then
                   { x with state := .done, status := status, data := data, orphanMark := false, timer := none }
                 else x
               doneOrder := s.remote.doneOrder ++ [tag] } }
         else if e.state = .done ∧ e.orphanMark = true then
           late (s.remote.entries.map fun x => if x.tag = tag then { x with orphanMark := false } else x)
         else if e.state = .orphan then late (s.remote.entries.filter fun x => x.tag ≠ tag)
         else s.stray k) ∧
  ∀ (t : RemoteTable) (k : LinkId),
    t.mayLeave k =
      if ∃ e ∈ t.entries, e.link = k ∧ (e.state = .sent ∨ e.state = .orphan ∨ (e.state = .done ∧ e.orphanMark = true)) then none
      else t.entries.find? fun e => decide (e.link = k ∧ e.state = .queued)

/-! ### The host port -/

/-- R161, R162, R163: a byte on HRXD, reported by any of the three rows, is taken by the framer's state (log 12).

R163, R165, log 2, log 4: an expiry of the gap timer, once it has run out, or a character error inside a frame, abandons the partial frame with a framing error;
outside a frame neither does anything. -/
def Obligations.HostBytesAreFramed : Prop :=
  ((∀ (b : Byte) (s : State), s.held = false →
     exec (.hostByteReceived b) s = .next (s.hostByte b).settle ∧ exec (.hostBadLength b) s = .next (s.hostByte b).settle ∧
     exec (.hostFrameReceived b) s = .next (s.hostByte b).settle) ∧
   ∀ (b : Byte) (s : State),
     let framed (f : HostFramer) : State := { s with host := { s.host with framer := f, gapTimer := some 50 } }
     (s.host.framer = .hunt → s.hostByte b = if b = 0x5A then framed .length else s) ∧
     (s.host.framer = .length → 1 ≤ b.toNat → b.toNat ≤ 64 → s.hostByte b = framed (.collect b [] (b.toNat + 3))) ∧
     (s.host.framer = .length → b.toNat = 0 ∨ 64 < b.toNat →
       s.hostByte b =
         let t := s.framingError
         if b = 0x5A then { t with host := { t.host with framer := .length, gapTimer := some 50 } } else t) ∧
     (∀ len got due, s.host.framer = .collect len got due → 2 ≤ due →
       s.hostByte b = framed (.collect len (got ++ [b]) (due - 1))) ∧
     (s.host.framer = .discard → s.hostByte b = s) ∧
     s.framingError =
       State.raise .hostFraming 0
         { s with host := { s.host with
             framer := .hunt
             gapTimer := none
             counters := { s.host.counters with
               framingErrors := BitVec.ofNat 16 (min 65535 (s.host.counters.framingErrors.toNat + 1)) } } }) ∧
  ∀ s : State, s.held = false →
    exec .hostGapTimerExpiry s = .next (if s.host.gapTimer ≠ some 0 then s else s.framingError.settle) ∧
    exec .hostCharacterError s = .next (
      match s.host.framer with
      | .hunt => s
      | .discard => s
      | .length => s.framingError.settle
      | .collect _ _ _ => s.framingError.settle)

/-- R164, R168, R169, R170: the byte that completes a frame. A CRC that does not match is counted and raises HOST_CRC; a good frame is an
overrun while a request is outstanding, a retry answered from the cache when it repeats the last SEQ, and else accepted, with a gap
counted when its SEQ does not follow the last. -/
def Obligations.HostFramesAreSorted : Prop :=
  ∀ (s : State) (len seq kind b : Byte) (rest : List Byte) (due : Nat),
    s.host.framer = .collect len (seq :: kind :: rest) due → due ≤ 1 →
    let t : State := { s with host := { s.host with framer := .hunt, gapTimer := none } }
    let n := t.host.counters
    let up (w : Word16) : Word16 := BitVec.ofNat 16 (min 65535 (w.toNat + 1))
    let counting (n : HostCounters) : State := { t with host := { t.host with counters := n } }
    let body := (rest ++ [b]).take (len.toNat - 1)
    let accepted (t : State) : State :=
      { t with host := { t.host with
          lastSeq := some seq, cache := none, outstanding := true, accepted := some ⟨seq, kind, body⟩ } }
    s.hostByte b =
      if (rest ++ [b]).drop (len.toNat - 1) ≠ bytesOf16 (crc16 (len :: seq :: kind :: body)) then
        (counting { n with crcErrors := up n.crcErrors }).raise .hostCrc 0
      else if s.host.outstanding = true then (counting { n with overruns := up n.overruns }).raise .hostOverrun 0
      else
        match s.host.lastSeq, s.host.cache with
        | none, _ => accepted t
        | some last, some reply =>
          if seq = last then
            { t with host := { t.host with counters := { n with retries := up n.retries }, queued := some reply } }
          else if seq = last + 1 then accepted t
          else accepted ((counting { n with sequenceGaps := up n.sequenceGaps }).raise .hostSeqGap 0)
        | some last, none =>
          if seq = last ∨ seq = last + 1 then accepted t
          else accepted ((counting { n with sequenceGaps := up n.sequenceGaps }).raise .hostSeqGap 0)

/-- R135, R173, R174, R175, R186: the output arbiter's choice: nothing while the transmitter is busy; the queued reply; nothing more in
reset pending; then the head of the done order as a remote result, its entry becoming ORPHAN or freed; then the head of the notice queue,
a LOST notice taking its place when notices were lost. Results and notices take the output sequence number. -/
def Obligations.OutputArbiterRanks : Prop :=
  ∀ s : State,
    let sends (f : HostFrame) (t : State) : State :=
      { t with host := { t.host with sending := some f.bytes, outSeq := t.host.outSeq + 1 } }
    (s.host.sending ≠ none → s.hostArbiter = s) ∧
    (s.host.sending = none →
      (∀ f, s.host.queued = some f →
        s.hostArbiter = { s with host := { s.host with queued := none, sending := some f.bytes } }) ∧
      (s.host.queued = none → s.executor.resetPending = true → s.hostArbiter = s) ∧
      (s.host.queued = none → s.executor.resetPending = false →
        (∀ tag rest e, s.remote.doneOrder = tag :: rest →
          s.remote.entries.find? (fun x => x.tag == tag) = some e →
          s.hostArbiter = sends ⟨s.host.outSeq, 0x41, e.tag :: byteOfNat e.link :: e.kind :: e.status :: e.data⟩
            { s with remote := { s.remote with
                doneOrder := rest
                entries :=
                  if e.orphanMark = true then
                    s.remote.entries.map fun x =>
                      if x.tag = tag then { x with state := .orphan, orphanMark := false, status := 0, data := [] } else x
                  else s.remote.entries.filter fun x => x.tag ≠ tag } }) ∧
        (∀ n rest, s.remote.doneOrder = [] → s.events.notices = n :: rest →
          s.hostArbiter = sends ⟨s.host.outSeq, 0x40, n.body⟩
            { s with events := { s.events with
                notices := if s.events.lost = 0 then rest else rest ++ [.lost s.events.lost]
                lost := 0 } }) ∧
        (s.remote.doneOrder = [] → s.events.notices = [] → s.hostArbiter = s)))

/-! ### Formats -/

/-- R195: the register starts at 0xFFFF; each byte is combined into its high 8 bits and shifted in 8 times, each shift combining 0x1021 when
a 1 leaves position 15; the two check values.

R195: covered bytes followed by their CRC, high byte first, leave the register at 0. -/
def Obligations.CrcRegister : Prop :=
  (crc16 [] = 0xFFFF ∧
   (∀ (bs : List Byte) (b : Byte),
     crc16 (bs ++ [b]) =
       Nat.iterate (fun r : Word16 => if r.getLsbD 15 then (r <<< 1) ^^^ 0x1021 else r <<< 1) 8
         (crc16 bs ^^^ (b.setWidth 16 <<< 8))) ∧
   crc16 [0x31, 0x32, 0x33, 0x34, 0x35, 0x36, 0x37, 0x38, 0x39] = 0x29B1 ∧ crc16 [0x01, 0x00, 0x01] = 0xEB8D) ∧
  ∀ bs : List Byte, crc16 (bs ++ bytesOf16 (crc16 bs)) = 0

/-- R162, R164, R195: encode and decode agree on the UART: the bytes of a host frame, taken one after another from HUNT, are a good frame
with the same SEQ, KIND and body, whatever the body holds, SYNC bytes included. -/
def Obligations.HostFrameBytesAreTakenAsThatFrame : Prop :=
  ∀ (f : HostFrame) (s : State), f.body.length ≤ 63 → s.host.framer = .hunt →
    f.bytes.foldl (fun t b => t.hostByte b) s = State.goodHostFrame f { s with host := { s.host with gapTimer := none } }

/-- R197, R198, R195: encode and decode agree on a link line: the bytes of a link frame, taken one after another while hunting, are
received as that frame, good exactly when its body length fits its kind.

R198: the entries that a hub writes into a CHANGE frame are the entries that a hub reads from it. -/
def Obligations.LinkFrameBytesAreReceivedAsThatFrame : Prop :=
  (∀ (f : LinkFrame) (s : State) (k : LinkId), f.body.length ≤ 64 → (s.linkAt k).framer = .hunting →
     f.bytes.foldl (fun t b => t.linkByte k b) s =
       State.takeFrame k f (linkLengthFits f.kind f.body.length)
         (s.modLink k fun l => { l with framer := .hunting, gapTimer := none })) ∧
  ∀ es : List ChangeEntry, (∀ e ∈ es, e.edges ≤ 15) → changeEntriesOf (es.flatMap ChangeEntry.bytes) = es

/-! ### The laws that every step keeps -/

/-- R191: ALERTN is exact. -/
def Obligations.EveryStepKeepsAlertExact : Prop :=
  ∀ s t : State, s.alertExact → step s = .next t → t.alertExact

/-- R182: the notice queue holds at most 16 notices and at most one CHANNEL notice per channel. -/
def Obligations.EveryStepKeepsNoticeLaw : Prop :=
  ∀ s t : State, s.NoticeLaw → step s = .next t → t.NoticeLaw

/-- R2, R11, R12, R21, R22, R30, R36, R48, R54: the laws of the channel table and of the objects that write it. The laws of the link
engines (EveryStepKeepsLinkLaw) are a premise: a link that is UP has no hold-off running. -/
def Obligations.EveryStepKeepsChannelLaw : Prop :=
  ∀ s t : State, s.ChannelLaw → s.LinkLaw → step s = .next t → t.ChannelLaw

/-- R57, R92, R93, R107, R137: the laws of the link engines. -/
def Obligations.EveryStepKeepsLinkLaw : Prop :=
  ∀ s t : State, s.LinkLaw → step s = .next t → t.LinkLaw

/-- R123, R124, R127: the law of the remote request table. The laws of the link engines (EveryStepKeepsLinkLaw) are a premise. -/
def Obligations.EveryStepKeepsRemoteLaw : Prop :=
  ∀ s t : State, s.RemoteLaw → s.LinkLaw → step s = .next t → t.RemoteLaw

/-- R161, R163, R166, R167, R170: the law of the host port. -/
def Obligations.EveryStepKeepsHostLaw : Prop :=
  ∀ s t : State, s.HostLaw → step s = .next t → t.HostLaw

/-- R26, R28, R42, R43: the laws of line records and combiner records. -/
def Obligations.EveryStepKeepsLineAndCombinerLaws : Prop :=
  ∀ s t : State, (∀ n, (s.lineAt n).Law) → (∀ m, (s.comb m).Law) → step s = .next t →
    (∀ n, (t.lineAt n).Law) ∧ ∀ m, (t.comb m).Law

/-- Every law holds right after reset. -/
def Obligations.ResetKeepsEveryLaw : Prop :=
  State.reset.alertExact ∧ State.reset.NoticeLaw ∧ State.reset.ChannelLaw ∧ State.reset.LinkLaw ∧ State.reset.RemoteLaw ∧
  State.reset.HostLaw ∧ (∀ n, (State.reset.lineAt n).Law) ∧ ∀ m, (State.reset.comb m).Law
end

