-- ==== Sys2Proof/Laws/State.lean ====
section
/-! SUPPORT. What each update of the state does to each field, so that no proof unfolds a record update. -/

namespace Sys2Proof.Machine

/-! ### Records -/

@[simp] theorem get_tabulate {α : Type} {n : Nat} (f : Fin n → α) (i : Fin n) : (tabulate f).get i = f i := by
  simp [tabulate, Vector.get]
  rfl

theorem get_set {α : Type} {n : Nat} (v : Vector α n) (i j : Fin n) (x : α) :
    (v.set i.val x i.isLt).get j = if j = i then x else v.get j := by
  simp only [Vector.get_eq_getElem, Vector.getElem_set, Fin.ext_iff, eq_comm]

@[simp] theorem State.chan_setChan (s : State) (d : ChannelId) (x : Channel) (c : ChannelId) :
    (s.setChan d x).chan c = if c = d then x else s.chan c := get_set _ _ _ _

@[simp] theorem State.lineAt_setLine (s : State) (d : LineId) (x : Line) (n : LineId) :
    (s.setLine d x).lineAt n = if n = d then x else s.lineAt n := get_set _ _ _ _

@[simp] theorem State.comb_setComb (s : State) (d : CombinerId) (x : Combiner) (m : CombinerId) :
    (s.setComb d x).comb m = if m = d then x else s.comb m := get_set _ _ _ _

@[simp] theorem State.linkAt_modLink (s : State) (d : LinkId) (f : Link → Link) (k : LinkId) :
    (s.modLink d f).linkAt k = if k = d then f (s.linkAt d) else s.linkAt k := get_set _ _ _ _

/-! ### Fields that an update leaves, and the field it writes -/

@[simp] theorem State.setChan_lines (d : ChannelId) (x : Channel) (s : State) : (State.setChan d x s).lines = s.lines := rfl
@[simp] theorem State.setChan_combiners (d : ChannelId) (x : Channel) (s : State) : (State.setChan d x s).combiners = s.combiners := rfl
@[simp] theorem State.setChan_links (d : ChannelId) (x : Channel) (s : State) : (State.setChan d x s).links = s.links := rfl
@[simp] theorem State.setChan_remote (d : ChannelId) (x : Channel) (s : State) : (State.setChan d x s).remote = s.remote := rfl
@[simp] theorem State.setChan_executor (d : ChannelId) (x : Channel) (s : State) : (State.setChan d x s).executor = s.executor := rfl
@[simp] theorem State.setChan_host (d : ChannelId) (x : Channel) (s : State) : (State.setChan d x s).host = s.host := rfl
@[simp] theorem State.setChan_events (d : ChannelId) (x : Channel) (s : State) : (State.setChan d x s).events = s.events := rfl
@[simp] theorem State.setChan_node (d : ChannelId) (x : Channel) (s : State) : (State.setChan d x s).node = s.node := rfl
@[simp] theorem State.setChan_held (d : ChannelId) (x : Channel) (s : State) : (State.setChan d x s).held = s.held := rfl
@[simp] theorem State.setChan_pending (d : ChannelId) (x : Channel) (s : State) : (State.setChan d x s).pending = s.pending := rfl
@[simp] theorem State.setChan_lineAt (d : ChannelId) (x : Channel) (s : State) (n : LineId) : (State.setChan d x s).lineAt n = s.lineAt n := rfl
@[simp] theorem State.setChan_comb (d : ChannelId) (x : Channel) (s : State) (m : CombinerId) : (State.setChan d x s).comb m = s.comb m := rfl
@[simp] theorem State.setChan_linkAt (d : ChannelId) (x : Channel) (s : State) (k : LinkId) : (State.setChan d x s).linkAt k = s.linkAt k := rfl

@[simp] theorem State.setLine_channels (d : LineId) (x : Line) (s : State) : (State.setLine d x s).channels = s.channels := rfl
@[simp] theorem State.setLine_combiners (d : LineId) (x : Line) (s : State) : (State.setLine d x s).combiners = s.combiners := rfl
@[simp] theorem State.setLine_links (d : LineId) (x : Line) (s : State) : (State.setLine d x s).links = s.links := rfl
@[simp] theorem State.setLine_remote (d : LineId) (x : Line) (s : State) : (State.setLine d x s).remote = s.remote := rfl
@[simp] theorem State.setLine_executor (d : LineId) (x : Line) (s : State) : (State.setLine d x s).executor = s.executor := rfl
@[simp] theorem State.setLine_host (d : LineId) (x : Line) (s : State) : (State.setLine d x s).host = s.host := rfl
@[simp] theorem State.setLine_events (d : LineId) (x : Line) (s : State) : (State.setLine d x s).events = s.events := rfl
@[simp] theorem State.setLine_node (d : LineId) (x : Line) (s : State) : (State.setLine d x s).node = s.node := rfl
@[simp] theorem State.setLine_held (d : LineId) (x : Line) (s : State) : (State.setLine d x s).held = s.held := rfl
@[simp] theorem State.setLine_pending (d : LineId) (x : Line) (s : State) : (State.setLine d x s).pending = s.pending := rfl
@[simp] theorem State.setLine_chan (d : LineId) (x : Line) (s : State) (c : ChannelId) : (State.setLine d x s).chan c = s.chan c := rfl
@[simp] theorem State.setLine_comb (d : LineId) (x : Line) (s : State) (m : CombinerId) : (State.setLine d x s).comb m = s.comb m := rfl
@[simp] theorem State.setLine_linkAt (d : LineId) (x : Line) (s : State) (k : LinkId) : (State.setLine d x s).linkAt k = s.linkAt k := rfl

@[simp] theorem State.setComb_channels (d : CombinerId) (x : Combiner) (s : State) : (State.setComb d x s).channels = s.channels := rfl
@[simp] theorem State.setComb_lines (d : CombinerId) (x : Combiner) (s : State) : (State.setComb d x s).lines = s.lines := rfl
@[simp] theorem State.setComb_links (d : CombinerId) (x : Combiner) (s : State) : (State.setComb d x s).links = s.links := rfl
@[simp] theorem State.setComb_remote (d : CombinerId) (x : Combiner) (s : State) : (State.setComb d x s).remote = s.remote := rfl
@[simp] theorem State.setComb_executor (d : CombinerId) (x : Combiner) (s : State) : (State.setComb d x s).executor = s.executor := rfl
@[simp] theorem State.setComb_host (d : CombinerId) (x : Combiner) (s : State) : (State.setComb d x s).host = s.host := rfl
@[simp] theorem State.setComb_events (d : CombinerId) (x : Combiner) (s : State) : (State.setComb d x s).events = s.events := rfl
@[simp] theorem State.setComb_node (d : CombinerId) (x : Combiner) (s : State) : (State.setComb d x s).node = s.node := rfl
@[simp] theorem State.setComb_held (d : CombinerId) (x : Combiner) (s : State) : (State.setComb d x s).held = s.held := rfl
@[simp] theorem State.setComb_pending (d : CombinerId) (x : Combiner) (s : State) : (State.setComb d x s).pending = s.pending := rfl
@[simp] theorem State.setComb_chan (d : CombinerId) (x : Combiner) (s : State) (c : ChannelId) : (State.setComb d x s).chan c = s.chan c := rfl
@[simp] theorem State.setComb_lineAt (d : CombinerId) (x : Combiner) (s : State) (n : LineId) : (State.setComb d x s).lineAt n = s.lineAt n := rfl
@[simp] theorem State.setComb_linkAt (d : CombinerId) (x : Combiner) (s : State) (k : LinkId) : (State.setComb d x s).linkAt k = s.linkAt k := rfl

@[simp] theorem State.modLink_channels (d : LinkId) (f : Link → Link) (s : State) : (State.modLink d f s).channels = s.channels := rfl
@[simp] theorem State.modLink_lines (d : LinkId) (f : Link → Link) (s : State) : (State.modLink d f s).lines = s.lines := rfl
@[simp] theorem State.modLink_combiners (d : LinkId) (f : Link → Link) (s : State) : (State.modLink d f s).combiners = s.combiners := rfl
@[simp] theorem State.modLink_remote (d : LinkId) (f : Link → Link) (s : State) : (State.modLink d f s).remote = s.remote := rfl
@[simp] theorem State.modLink_executor (d : LinkId) (f : Link → Link) (s : State) : (State.modLink d f s).executor = s.executor := rfl
@[simp] theorem State.modLink_host (d : LinkId) (f : Link → Link) (s : State) : (State.modLink d f s).host = s.host := rfl
@[simp] theorem State.modLink_events (d : LinkId) (f : Link → Link) (s : State) : (State.modLink d f s).events = s.events := rfl
@[simp] theorem State.modLink_node (d : LinkId) (f : Link → Link) (s : State) : (State.modLink d f s).node = s.node := rfl
@[simp] theorem State.modLink_held (d : LinkId) (f : Link → Link) (s : State) : (State.modLink d f s).held = s.held := rfl
@[simp] theorem State.modLink_pending (d : LinkId) (f : Link → Link) (s : State) : (State.modLink d f s).pending = s.pending := rfl
@[simp] theorem State.modLink_chan (d : LinkId) (f : Link → Link) (s : State) (c : ChannelId) : (State.modLink d f s).chan c = s.chan c := rfl
@[simp] theorem State.modLink_lineAt (d : LinkId) (f : Link → Link) (s : State) (n : LineId) : (State.modLink d f s).lineAt n = s.lineAt n := rfl
@[simp] theorem State.modLink_comb (d : LinkId) (f : Link → Link) (s : State) (m : CombinerId) : (State.modLink d f s).comb m = s.comb m := rfl

@[simp] theorem State.modRemote_channels (f : RemoteTable → RemoteTable) (s : State) : (State.modRemote f s).channels = s.channels := rfl
@[simp] theorem State.modRemote_lines (f : RemoteTable → RemoteTable) (s : State) : (State.modRemote f s).lines = s.lines := rfl
@[simp] theorem State.modRemote_combiners (f : RemoteTable → RemoteTable) (s : State) : (State.modRemote f s).combiners = s.combiners := rfl
@[simp] theorem State.modRemote_links (f : RemoteTable → RemoteTable) (s : State) : (State.modRemote f s).links = s.links := rfl
@[simp] theorem State.modRemote_remote (f : RemoteTable → RemoteTable) (s : State) : (State.modRemote f s).remote = f s.remote := rfl
@[simp] theorem State.modRemote_executor (f : RemoteTable → RemoteTable) (s : State) : (State.modRemote f s).executor = s.executor := rfl
@[simp] theorem State.modRemote_host (f : RemoteTable → RemoteTable) (s : State) : (State.modRemote f s).host = s.host := rfl
@[simp] theorem State.modRemote_events (f : RemoteTable → RemoteTable) (s : State) : (State.modRemote f s).events = s.events := rfl
@[simp] theorem State.modRemote_node (f : RemoteTable → RemoteTable) (s : State) : (State.modRemote f s).node = s.node := rfl
@[simp] theorem State.modRemote_held (f : RemoteTable → RemoteTable) (s : State) : (State.modRemote f s).held = s.held := rfl
@[simp] theorem State.modRemote_pending (f : RemoteTable → RemoteTable) (s : State) : (State.modRemote f s).pending = s.pending := rfl
@[simp] theorem State.modRemote_chan (f : RemoteTable → RemoteTable) (s : State) (c : ChannelId) : (State.modRemote f s).chan c = s.chan c := rfl
@[simp] theorem State.modRemote_lineAt (f : RemoteTable → RemoteTable) (s : State) (n : LineId) : (State.modRemote f s).lineAt n = s.lineAt n := rfl
@[simp] theorem State.modRemote_comb (f : RemoteTable → RemoteTable) (s : State) (m : CombinerId) : (State.modRemote f s).comb m = s.comb m := rfl
@[simp] theorem State.modRemote_linkAt (f : RemoteTable → RemoteTable) (s : State) (k : LinkId) : (State.modRemote f s).linkAt k = s.linkAt k := rfl

@[simp] theorem State.modHost_channels (f : HostPort → HostPort) (s : State) : (State.modHost f s).channels = s.channels := rfl
@[simp] theorem State.modHost_lines (f : HostPort → HostPort) (s : State) : (State.modHost f s).lines = s.lines := rfl
@[simp] theorem State.modHost_combiners (f : HostPort → HostPort) (s : State) : (State.modHost f s).combiners = s.combiners := rfl
@[simp] theorem State.modHost_links (f : HostPort → HostPort) (s : State) : (State.modHost f s).links = s.links := rfl
@[simp] theorem State.modHost_remote (f : HostPort → HostPort) (s : State) : (State.modHost f s).remote = s.remote := rfl
@[simp] theorem State.modHost_executor (f : HostPort → HostPort) (s : State) : (State.modHost f s).executor = s.executor := rfl
@[simp] theorem State.modHost_host (f : HostPort → HostPort) (s : State) : (State.modHost f s).host = f s.host := rfl
@[simp] theorem State.modHost_events (f : HostPort → HostPort) (s : State) : (State.modHost f s).events = s.events := rfl
@[simp] theorem State.modHost_node (f : HostPort → HostPort) (s : State) : (State.modHost f s).node = s.node := rfl
@[simp] theorem State.modHost_held (f : HostPort → HostPort) (s : State) : (State.modHost f s).held = s.held := rfl
@[simp] theorem State.modHost_pending (f : HostPort → HostPort) (s : State) : (State.modHost f s).pending = s.pending := rfl
@[simp] theorem State.modHost_chan (f : HostPort → HostPort) (s : State) (c : ChannelId) : (State.modHost f s).chan c = s.chan c := rfl
@[simp] theorem State.modHost_lineAt (f : HostPort → HostPort) (s : State) (n : LineId) : (State.modHost f s).lineAt n = s.lineAt n := rfl
@[simp] theorem State.modHost_comb (f : HostPort → HostPort) (s : State) (m : CombinerId) : (State.modHost f s).comb m = s.comb m := rfl
@[simp] theorem State.modHost_linkAt (f : HostPort → HostPort) (s : State) (k : LinkId) : (State.modHost f s).linkAt k = s.linkAt k := rfl

@[simp] theorem State.modEvents_channels (f : EventUnit → EventUnit) (s : State) : (State.modEvents f s).channels = s.channels := rfl
@[simp] theorem State.modEvents_lines (f : EventUnit → EventUnit) (s : State) : (State.modEvents f s).lines = s.lines := rfl
@[simp] theorem State.modEvents_combiners (f : EventUnit → EventUnit) (s : State) : (State.modEvents f s).combiners = s.combiners := rfl
@[simp] theorem State.modEvents_links (f : EventUnit → EventUnit) (s : State) : (State.modEvents f s).links = s.links := rfl
@[simp] theorem State.modEvents_remote (f : EventUnit → EventUnit) (s : State) : (State.modEvents f s).remote = s.remote := rfl
@[simp] theorem State.modEvents_executor (f : EventUnit → EventUnit) (s : State) : (State.modEvents f s).executor = s.executor := rfl
@[simp] theorem State.modEvents_host (f : EventUnit → EventUnit) (s : State) : (State.modEvents f s).host = s.host := rfl
@[simp] theorem State.modEvents_events (f : EventUnit → EventUnit) (s : State) : (State.modEvents f s).events = f s.events := rfl
@[simp] theorem State.modEvents_node (f : EventUnit → EventUnit) (s : State) : (State.modEvents f s).node = s.node := rfl
@[simp] theorem State.modEvents_held (f : EventUnit → EventUnit) (s : State) : (State.modEvents f s).held = s.held := rfl
@[simp] theorem State.modEvents_pending (f : EventUnit → EventUnit) (s : State) : (State.modEvents f s).pending = s.pending := rfl
@[simp] theorem State.modEvents_chan (f : EventUnit → EventUnit) (s : State) (c : ChannelId) : (State.modEvents f s).chan c = s.chan c := rfl
@[simp] theorem State.modEvents_lineAt (f : EventUnit → EventUnit) (s : State) (n : LineId) : (State.modEvents f s).lineAt n = s.lineAt n := rfl
@[simp] theorem State.modEvents_comb (f : EventUnit → EventUnit) (s : State) (m : CombinerId) : (State.modEvents f s).comb m = s.comb m := rfl
@[simp] theorem State.modEvents_linkAt (f : EventUnit → EventUnit) (s : State) (k : LinkId) : (State.modEvents f s).linkAt k = s.linkAt k := rfl

@[simp] theorem State.modExecutor_channels (f : Executor → Executor) (s : State) : (State.modExecutor f s).channels = s.channels := rfl
@[simp] theorem State.modExecutor_lines (f : Executor → Executor) (s : State) : (State.modExecutor f s).lines = s.lines := rfl
@[simp] theorem State.modExecutor_combiners (f : Executor → Executor) (s : State) : (State.modExecutor f s).combiners = s.combiners := rfl
@[simp] theorem State.modExecutor_links (f : Executor → Executor) (s : State) : (State.modExecutor f s).links = s.links := rfl
@[simp] theorem State.modExecutor_remote (f : Executor → Executor) (s : State) : (State.modExecutor f s).remote = s.remote := rfl
@[simp] theorem State.modExecutor_executor (f : Executor → Executor) (s : State) : (State.modExecutor f s).executor = f s.executor := rfl
@[simp] theorem State.modExecutor_host (f : Executor → Executor) (s : State) : (State.modExecutor f s).host = s.host := rfl
@[simp] theorem State.modExecutor_events (f : Executor → Executor) (s : State) : (State.modExecutor f s).events = s.events := rfl
@[simp] theorem State.modExecutor_node (f : Executor → Executor) (s : State) : (State.modExecutor f s).node = s.node := rfl
@[simp] theorem State.modExecutor_held (f : Executor → Executor) (s : State) : (State.modExecutor f s).held = s.held := rfl
@[simp] theorem State.modExecutor_pending (f : Executor → Executor) (s : State) : (State.modExecutor f s).pending = s.pending := rfl
@[simp] theorem State.modExecutor_chan (f : Executor → Executor) (s : State) (c : ChannelId) : (State.modExecutor f s).chan c = s.chan c := rfl
@[simp] theorem State.modExecutor_lineAt (f : Executor → Executor) (s : State) (n : LineId) : (State.modExecutor f s).lineAt n = s.lineAt n := rfl
@[simp] theorem State.modExecutor_comb (f : Executor → Executor) (s : State) (m : CombinerId) : (State.modExecutor f s).comb m = s.comb m := rfl
@[simp] theorem State.modExecutor_linkAt (f : Executor → Executor) (s : State) (k : LinkId) : (State.modExecutor f s).linkAt k = s.linkAt k := rfl

@[simp] theorem State.evalAlert_channels (s : State) : (State.evalAlert s).channels = s.channels := rfl
@[simp] theorem State.evalAlert_lines (s : State) : (State.evalAlert s).lines = s.lines := rfl
@[simp] theorem State.evalAlert_combiners (s : State) : (State.evalAlert s).combiners = s.combiners := rfl
@[simp] theorem State.evalAlert_links (s : State) : (State.evalAlert s).links = s.links := rfl
@[simp] theorem State.evalAlert_remote (s : State) : (State.evalAlert s).remote = s.remote := rfl
@[simp] theorem State.evalAlert_executor (s : State) : (State.evalAlert s).executor = s.executor := rfl
@[simp] theorem State.evalAlert_host (s : State) : (State.evalAlert s).host = s.host := rfl
@[simp] theorem State.evalAlert_node (s : State) : (State.evalAlert s).node = s.node := rfl
@[simp] theorem State.evalAlert_held (s : State) : (State.evalAlert s).held = s.held := rfl
@[simp] theorem State.evalAlert_pending (s : State) : (State.evalAlert s).pending = s.pending := rfl
@[simp] theorem State.evalAlert_chan (s : State) (c : ChannelId) : (State.evalAlert s).chan c = s.chan c := rfl
@[simp] theorem State.evalAlert_lineAt (s : State) (n : LineId) : (State.evalAlert s).lineAt n = s.lineAt n := rfl
@[simp] theorem State.evalAlert_comb (s : State) (m : CombinerId) : (State.evalAlert s).comb m = s.comb m := rfl
@[simp] theorem State.evalAlert_linkAt (s : State) (k : LinkId) : (State.evalAlert s).linkAt k = s.linkAt k := rfl

end Sys2Proof.Machine
end

