-- ==== Sys2Proof/Laws/Arbiters.lean ====
section
/-! SUPPORT. Everything the arbiters can do to a state, and what an event and a granted request answer. -/

namespace Sys2Proof.Machine

/-! ### The arbiters -/

theorem sendNewData_only {s t : State} {k : LinkId} (h : s.sendNewData? k = some t) :
    ∃ L R, t = { s with links := L, remote := R } := by
  unfold State.sendNewData? at h
  simp only at h
  split at h
  · cases h
  · split at h
    · cases h; exact ⟨_, _, rfl⟩
    · split at h
      · cases h; exact ⟨_, _, rfl⟩
      · split at h
        · cases h
        · cases h; exact ⟨_, _, rfl⟩

/-- A link arbiter touches the link engines and the remote request table. -/
theorem linkArbiter_only (s : State) (k : LinkId) : ∃ L R, s.linkArbiter k = { s with links := L, remote := R } := by
  unfold State.linkArbiter
  simp only
  split
  · exact ⟨s.links, s.remote, rfl⟩
  · split
    · exact ⟨s.links, s.remote, rfl⟩
    · exact ⟨s.links, s.remote, rfl⟩
    · split
      · exact ⟨_, s.remote, rfl⟩
      · exact ⟨s.links, s.remote, rfl⟩
    · split
      · exact ⟨_, s.remote, rfl⟩
      · split
        · exact ⟨_, s.remote, rfl⟩
        · split
          · exact sendNewData_only ‹_›
          · split
            · exact ⟨_, s.remote, rfl⟩
            · exact ⟨s.links, s.remote, rfl⟩

theorem linkArbiters_only (ks : List LinkId) (s : State) :
    ∃ L R, ks.foldl (fun t k => t.linkArbiter k) s = { s with links := L, remote := R } := by
  induction ks generalizing s with
  | nil => exact ⟨s.links, s.remote, rfl⟩
  | cons k ks ih =>
    obtain ⟨L, R, h⟩ := linkArbiter_only s k
    obtain ⟨L', R', h'⟩ := ih (s.linkArbiter k)
    exact ⟨L', R', by rw [List.foldl_cons, h', h]⟩

/-- The output arbiter touches the host port, the remote request table, and the notice queue with its lost count. -/
theorem hostArbiter_only (s : State) :
    ∃ R H N n, s.hostArbiter = { s with remote := R, host := H, events := { s.events with notices := N, lost := n } } := by
  unfold State.hostArbiter
  split
  · exact ⟨s.remote, s.host, s.events.notices, s.events.lost, rfl⟩
  · split
    · exact ⟨s.remote, _, s.events.notices, s.events.lost, rfl⟩
    · split
      · exact ⟨s.remote, s.host, s.events.notices, s.events.lost, rfl⟩
      · split
        · unfold State.beginResult
          split
          · exact ⟨_, _, s.events.notices, s.events.lost, rfl⟩
          · exact ⟨_, s.host, s.events.notices, s.events.lost, rfl⟩
        · split
          · rename_i n rest _
            by_cases h : s.events.lost = 0
            · exact ⟨s.remote, _, rest, s.events.lost, by simp only [State.beginNotice, EventUnit.deliver, State.modEvents, h, if_true]; rfl⟩
            · exact ⟨s.remote, _, rest ++ [.lost s.events.lost], 0, by simp only [State.beginNotice, EventUnit.deliver, State.modEvents, h, if_false]; rfl⟩
          · exact ⟨s.remote, s.host, s.events.notices, s.events.lost, rfl⟩

/-- The choices at the completion of an event touch the link engines, the remote request table, the host port, and the notice
queue with its lost count. -/
theorem settle_only (s : State) :
    ∃ L R H N n, s.settle =
      { s with links := L, remote := R, host := H, events := { s.events with notices := N, lost := n } } := by
  obtain ⟨R, H, N, n, h⟩ := hostArbiter_only s
  obtain ⟨L, R', h'⟩ := linkArbiters_only allLinks s.hostArbiter
  exact ⟨L, R', H, N, n, by rw [State.settle, h', h]⟩

section
variable (s : State)

@[simp] theorem settle_channels : s.settle.channels = s.channels := by obtain ⟨_, _, _, _, _, h⟩ := settle_only s; rw [h]
@[simp] theorem settle_lines : s.settle.lines = s.lines := by obtain ⟨_, _, _, _, _, h⟩ := settle_only s; rw [h]
@[simp] theorem settle_combiners : s.settle.combiners = s.combiners := by obtain ⟨_, _, _, _, _, h⟩ := settle_only s; rw [h]
@[simp] theorem settle_executor : s.settle.executor = s.executor := by obtain ⟨_, _, _, _, _, h⟩ := settle_only s; rw [h]
@[simp] theorem settle_node : s.settle.node = s.node := by obtain ⟨_, _, _, _, _, h⟩ := settle_only s; rw [h]
@[simp] theorem settle_held : s.settle.held = s.held := by obtain ⟨_, _, _, _, _, h⟩ := settle_only s; rw [h]
@[simp] theorem settle_pending : s.settle.pending = s.pending := by obtain ⟨_, _, _, _, _, h⟩ := settle_only s; rw [h]
@[simp] theorem settle_flags : s.settle.events.flags = s.events.flags := by obtain ⟨_, _, _, _, _, h⟩ := settle_only s; rw [h]
@[simp] theorem settle_alertn : s.settle.events.alertn = s.events.alertn := by obtain ⟨_, _, _, _, _, h⟩ := settle_only s; rw [h]
@[simp] theorem settle_chan (c : ChannelId) : s.settle.chan c = s.chan c := by simp [State.chan]
@[simp] theorem settle_lineAt (n : LineId) : s.settle.lineAt n = s.lineAt n := by simp [State.lineAt]
@[simp] theorem settle_comb (m : CombinerId) : s.settle.comb m = s.comb m := by simp [State.comb]

end

/-! ### Events -/

/-- An event that occurs answers its effect, followed by the arbiters' choices. -/
theorem event_occurs {s : State} {effect : State → State} (hs : s.held = false) :
    event true effect s = .next (effect s).settle := by simp [event, hs]

/-- An event that cannot occur changes nothing (log 2). -/
@[simp] theorem event_idle (s : State) (effect : State → State) : event false effect s = .next s := by simp [event]

/-- While RESETN is low no event occurs (R158). -/
theorem event_held {s : State} {occurs : Bool} {effect : State → State} (hs : s.held = true) :
    event occurs effect s = .next s := by simp [event, hs]

/-- What an event answers, in every case. -/
theorem event_cases (occurs : Bool) (effect : State → State) (s : State) :
    event occurs effect s = .next s ∨ s.held = false ∧ occurs = true ∧ event occurs effect s = .next (effect s).settle := by
  cases hs : s.held <;> cases occurs <;> simp [event, hs]

/-! ### Expiries -/

@[simp] theorem ranOut_iff (t : Timer) : Timer.ranOut t = true ↔ t = some 0 := by cases t <;> simp [Timer.ranOut]

/-- The expiry of a timer that has run out answers its effect, followed by the arbiters' choices. -/
theorem expiry_ranOut {s : State} {effect : State → State} (hs : s.held = false) :
    expiry (some 0) effect s = .next (effect s).settle := event_occurs hs

/-- A timer that is stopped or has time left does not expire (log 4). -/
theorem expiry_waits {timer : Timer} (effect : State → State) (s : State) (h : timer ≠ some 0) :
    expiry timer effect s = .next s := by
  have : Timer.ranOut timer = false := by rwa [← Bool.not_eq_true, ranOut_iff]
  rw [expiry, this, event_idle]

/-- What an expiry answers, in every case. -/
theorem expiry_cases (timer : Timer) (effect : State → State) (s : State) :
    expiry timer effect s = .next s ∨
      s.held = false ∧ timer = some 0 ∧ expiry timer effect s = .next (effect s).settle := by
  simpa [expiry] using event_cases (Timer.ranOut timer) effect s

/-! ### Requests -/

/-- A granted request that its row serves is executed, and the arbiters choose. -/
theorem request_granted {s : State} {g : Grant} {serves : HostFrame → Bool} {rule : RequestRule} (hs : s.held = false)
    (hg : s.nextGrant = some g) (hr : serves g.req = true) : request serves rule s = .next (s.execute g rule).settle := by
  simp [request, hg, hr, event, hs]

/-- What a request row answers, in every case: nothing, or its grant's execution and the arbiters' choices. -/
theorem request_cases (serves : HostFrame → Bool) (rule : RequestRule) (s : State) :
    request serves rule s = .next s ∨
      ∃ g, s.held = false ∧ s.nextGrant = some g ∧ serves g.req = true ∧
        request serves rule s = .next (s.execute g rule).settle := by
  unfold request
  split
  · rename_i g hg
    rcases event_cases (serves g.req) (State.execute g rule) s with h | ⟨hs, hr, h⟩
    · exact .inl h
    · exact .inr ⟨g, hs, hg, hr, h⟩
  · exact .inl rfl

/-- An execution is the effect with its reply, or a refusal's reply alone (R151). -/
theorem execute_cases (g : Grant) (rule : RequestRule) (s : State) :
    (∃ u data, judge g rule (s.takeGrant g) = .ok (u, data) ∧ s.execute g rule = u.answer g .ok data) ∨
      ∃ status, judge g rule (s.takeGrant g) = .error status ∧ s.execute g rule = (s.takeGrant g).answer g status [] := by
  unfold State.execute
  simp only
  split
  · exact .inl ⟨_, _, ‹_›, rfl⟩
  · exact .inr ⟨_, ‹_›, rfl⟩

/-- The four checks of R148 pass in the order of that rule, and the request's own rule then decides. -/
theorem judge_cases (g : Grant) (rule : RequestRule) (s : State) :
    judge g rule s = .error .badLength ∨ judge g rule s = .error .unknownKind ∨ judge g rule s = .error .denied ∨
      isRequestKind g.req.kind = true ∧ lengthFits g.req.kind g.req.body = true ∧ s.permits g = true ∧
        judge g rule s = rule g.req.body s := by
  unfold judge
  cases isRequestKind g.req.kind <;> cases lengthFits g.req.kind g.req.body <;> cases s.permits g <;> simp

/-- A grant touches the pointer and the host port's accepted request (R145). -/
theorem takeGrant_only (g : Grant) (s : State) :
    ∃ a, s.takeGrant g =
      { s with executor := { s.executor with pointer := g.src.next }, host := { s.host with accepted := a } } := by
  unfold State.takeGrant
  cases g.src
  · exact ⟨none, rfl⟩
  · exact ⟨s.host.accepted, rfl⟩

/-- A reply touches the host port, or the inbound slot of its link (R147). -/
theorem answer_only (g : Grant) (status : Status) (data : List Byte) (s : State) :
    ∃ L H, s.answer g status data = { s with links := L, host := H } := by
  unfold State.answer
  cases g.src
  · exact ⟨s.links, _, rfl⟩
  · exact ⟨_, s.host, rfl⟩

end Sys2Proof.Machine
end

