-- ==== Sys2Proof/Laws/Changes.lean ====
section
/-! SUPPORT. Everything a raised flag, a channel change and its offers can do to a state. -/

namespace Sys2Proof.Machine

/-! ### The event unit -/

/-- A dropped notice touches the flags, the lost count and ALERTN (R185). -/
theorem dropNotice_only (s : State) :
    ∃ F n a, s.dropNotice = { s with events := { s.events with flags := F, lost := n, alertn := a } } := by
  unfold State.dropNotice
  split
  · exact ⟨s.events.flags, _, s.events.alertn, rfl⟩
  · exact ⟨_, _, _, rfl⟩

/-- A new notice touches the notice queue, or what a drop touches (R185). -/
theorem queueNotice_only (n : Notice) (s : State) :
    ∃ F N l a, s.queueNotice n = { s with events := { s.events with flags := F, notices := N, lost := l, alertn := a } } := by
  unfold State.queueNotice
  split
  · exact ⟨s.events.flags, _, s.events.lost, s.events.alertn, rfl⟩
  · obtain ⟨F, l, a, h⟩ := dropNotice_only s
    exact ⟨F, s.events.notices, l, a, h⟩

/-- A raised cause touches the flags, the notice queue, the lost count and ALERTN (R179). -/
theorem raise_only (f : Flag) (d : Byte) (s : State) :
    ∃ F N l a, s.raise f d = { s with events := { s.events with flags := F, notices := N, lost := l, alertn := a } } := by
  unfold State.raise
  split
  · exact ⟨s.events.flags, s.events.notices, s.events.lost, s.events.alertn, rfl⟩
  · simp only
    split
    · obtain ⟨F, N, l, a, h⟩ := queueNotice_only (.event f d) (s.modEvents (EventUnit.setFlag f))
      exact ⟨F, N, l, _, by rw [h]; rfl⟩
    · exact ⟨_, s.events.notices, s.events.lost, _, rfl⟩

theorem noticeChange_only (c : ChannelId) (inc : Nat) (s : State) :
    ∃ F N l a, s.noticeChange c inc =
      { s with events := { s.events with flags := F, notices := N, lost := l, alertn := a } } := by
  unfold State.noticeChange
  simp only
  split
  · exact ⟨s.events.flags, _, s.events.lost, s.events.alertn, rfl⟩
  · exact queueNotice_only _ s

/-- The event unit's part of an offer touches the flags, the notice queue, the lost count and ALERTN (R184, R191). -/
theorem offerEvents_only (c : ChannelId) (inc : Nat) (s : State) :
    ∃ F N l a, s.offerEvents c inc =
      { s with events := { s.events with flags := F, notices := N, lost := l, alertn := a } } := by
  have key : ∃ F N l a, (if (s.chan c).watch then s.noticeChange c inc else s) =
      { s with events := { s.events with flags := F, notices := N, lost := l, alertn := a } } := by
    split
    · exact noticeChange_only c inc s
    · exact ⟨s.events.flags, s.events.notices, s.events.lost, s.events.alertn, rfl⟩
  obtain ⟨F, N, l, a, h⟩ := key
  unfold State.offerEvents
  simp only [h]
  split
  · exact ⟨F, N, l, _, rfl⟩
  · exact ⟨F, N, l, a, rfl⟩

/-! ### Offers and changes -/

/-- An offer touches the drives of lines, the pending change lists, and what the event unit's part touches (R8). -/
theorem offer_only (c : ChannelId) (inc : Nat) (s : State) :
    ∃ F N l a, s.offer c inc =
      { s with
        lines := tabulate fun n => (s.lineAt n).takeOffer s.chan c
        links := tabulate fun k => (s.linkAt k).takeOffer c (s.chan c) inc
        events := { s.events with flags := F, notices := N, lost := l, alertn := a } } := by
  obtain ⟨F, N, l, a, h⟩ := offerEvents_only c inc
    { s with
      lines := tabulate fun n => (s.lineAt n).takeOffer s.chan c
      links := tabulate fun k => (s.linkAt k).takeOffer c (s.chan c) inc }
  exact ⟨F, N, l, a, h⟩

@[simp] theorem offer_chan (c d : ChannelId) (inc : Nat) (s : State) : (s.offer c inc).chan d = s.chan d := by
  obtain ⟨_, _, _, _, h⟩ := offer_only c inc s; rw [h]; rfl

@[simp] theorem offer_lineAt (c : ChannelId) (inc : Nat) (s : State) (n : LineId) :
    (s.offer c inc).lineAt n = (s.lineAt n).takeOffer s.chan c := by
  obtain ⟨_, _, _, _, h⟩ := offer_only c inc s; rw [h]; simp [State.lineAt]

@[simp] theorem offer_linkAt (c : ChannelId) (inc : Nat) (s : State) (k : LinkId) :
    (s.offer c inc).linkAt k = (s.linkAt k).takeOffer c (s.chan c) inc := by
  obtain ⟨_, _, _, _, h⟩ := offer_only c inc s; rw [h]; simp [State.linkAt]

@[simp] theorem offer_comb (c : ChannelId) (inc : Nat) (s : State) (m : CombinerId) : (s.offer c inc).comb m = s.comb m := by
  obtain ⟨_, _, _, _, h⟩ := offer_only c inc s; rw [h]; rfl

@[simp] theorem writeChan_chan (c d : ChannelId) (st : Validity) (v : Bool) (inc : Nat) (s : State) :
    (s.writeChan c st v inc).chan d =
      if d = c then { s.chan c with state := st, value := v, edges := (s.chan c).edges + BitVec.ofNat 16 inc } else s.chan d := by
  simp [State.writeChan]

/-- What a channel change can touch: channels, lines, combiners, links, and the event unit's flags, notices, lost count and
ALERTN. -/
def State.changedFrom (s t : State) : Prop :=
  ∃ C LN CB LK F N l a, t =
    { s with
      channels := C
      lines := LN
      combiners := CB
      links := LK
      events := { s.events with flags := F, notices := N, lost := l, alertn := a } }

theorem changedFrom_refl (s : State) : s.changedFrom s :=
  ⟨s.channels, s.lines, s.combiners, s.links, s.events.flags, s.events.notices, s.events.lost, s.events.alertn, rfl⟩

theorem changedFrom_trans {s t u : State} (h : s.changedFrom t) (h' : t.changedFrom u) : s.changedFrom u := by
  obtain ⟨_, _, _, _, _, _, _, _, rfl⟩ := h
  obtain ⟨C, LN, CB, LK, F, N, l, a, rfl⟩ := h'
  exact ⟨C, LN, CB, LK, F, N, l, a, rfl⟩

theorem writeChan_changed (c : ChannelId) (st : Validity) (v : Bool) (inc : Nat) (s : State) :
    s.changedFrom (s.writeChan c st v inc) :=
  ⟨_, s.lines, s.combiners, s.links, s.events.flags, s.events.notices, s.events.lost, s.events.alertn, rfl⟩

theorem offer_changed (c : ChannelId) (inc : Nat) (s : State) : s.changedFrom (s.offer c inc) := by
  obtain ⟨F, N, l, a, h⟩ := offer_only c inc s
  exact ⟨s.channels, _, s.combiners, _, F, N, l, a, h⟩

theorem changeConsequent_changed (c : ChannelId) (st : Validity) (v : Bool) (inc : Nat) (s : State) :
    s.changedFrom (s.changeConsequent c st v inc) := by
  unfold State.changeConsequent
  simp only
  split
  · exact changedFrom_trans (writeChan_changed c st v inc s) (offer_changed c inc _)
  · exact writeChan_changed c st v inc s

theorem giveCombinerUpdate_changed (m : CombinerId) (before : Combiner) (s : State) :
    s.changedFrom (s.giveCombinerUpdate m before) := by
  unfold State.giveCombinerUpdate
  simp only
  split
  · exact changedFrom_refl s
  · split
    · exact changedFrom_refl s
    · exact changeConsequent_changed _ _ _ _ s

theorem foldl_changed {α : Type} (f : State → α → State) (hf : ∀ (s : State) (a : α), s.changedFrom (f s a)) (as : List α) (s : State) :
    s.changedFrom (as.foldl f s) := by
  induction as generalizing s with
  | nil => exact changedFrom_refl s
  | cons a as ih => exact changedFrom_trans (hf s a) (ih _)

theorem offerCombiners_changed (c : ChannelId) (s : State) : s.changedFrom (s.offerCombiners c) :=
  changedFrom_trans
    ⟨s.channels, s.lines, _, s.links, s.events.flags, s.events.notices, s.events.lost, s.events.alertn, rfl⟩
    (foldl_changed _ (fun t m => giveCombinerUpdate_changed m (s.comb m) t) _ (s.evaluateCombiners c))

/-- A channel change with everything that follows from it touches no more than `State.changedFrom` lists (R6 to R9, R49). -/
theorem change_changed (c : ChannelId) (st : Validity) (v : Bool) (inc : Nat) (s : State) :
    s.changedFrom (s.change c st v inc) := by
  unfold State.change
  simp only
  split
  · exact changedFrom_trans (changedFrom_trans (writeChan_changed c st v inc s) (offer_changed c inc _)) (offerCombiners_changed c _)
  · exact writeChan_changed c st v inc s

/-- An update, applied or not, touches no more (R6). -/
theorem update_changed (src : ChannelSource) (c : ChannelId) (st : Validity) (v : Bool) (inc : Nat) (s : State) :
    s.changedFrom (s.update src c st v inc) := by
  unfold State.update
  split
  · exact change_changed c st v inc s
  · exact changedFrom_refl s

/-- R6: an update from an object that is not the channel's source makes no change. -/
theorem update_stranger {src : ChannelSource} {c : ChannelId} {s : State} (h : (s.chan c).source ≠ src) (st : Validity) (v : Bool)
    (inc : Nat) : s.update src c st v inc = s := by simp [State.update, h]

theorem updateBound_changed (src : ChannelSource) (st : Validity) (v : Bool) (inc : Bool → Nat) (s : State) :
    s.changedFrom (s.updateBound src st v inc) := by
  unfold State.updateBound
  split
  · exact changedFrom_refl s
  · exact update_changed _ _ _ _ _ s

theorem staleImports_changed (k : LinkId) (s : State) : s.changedFrom (s.staleImports k) :=
  foldl_changed _ (fun t c => update_changed (.link k) c .stale (t.chan c).value 0 t) _ s

theorem linkStatus_changed (k : LinkId) (up : Bool) (s : State) : s.changedFrom (s.linkStatus k up) :=
  updateBound_changed _ _ _ _ s

end Sys2Proof.Machine
end

