-- ==== Sys2Proof/Laws/Receiving.lean ====
section
/-! SUPPORT. Everything that the work of a link engine, and a byte at the host port, can do to a state. -/

namespace Sys2Proof.Machine

/-! ### The work of a link engine -/

/-- What the events of a link engine can touch: what a channel change can, and the remote request table. The executor, the host
port, the node id, the masks and alert settings and the queue of commands stay. -/
def State.workedFrom (s t : State) : Prop :=
  ∃ C LN CB LK R F N l a, t =
    { s with
      channels := C
      lines := LN
      combiners := CB
      links := LK
      remote := R
      events := { s.events with flags := F, notices := N, lost := l, alertn := a } }

theorem workedFrom_of_changed {s t : State} (h : s.changedFrom t) : s.workedFrom t := by
  obtain ⟨C, LN, CB, LK, F, N, l, a, rfl⟩ := h
  exact ⟨C, LN, CB, LK, s.remote, F, N, l, a, rfl⟩

theorem workedFrom_refl (s : State) : s.workedFrom s := workedFrom_of_changed (changedFrom_refl s)

theorem workedFrom_trans {s t u : State} (h : s.workedFrom t) (h' : t.workedFrom u) : s.workedFrom u := by
  obtain ⟨_, _, _, _, _, _, _, _, _, rfl⟩ := h
  obtain ⟨C, LN, CB, LK, R, F, N, l, a, rfl⟩ := h'
  exact ⟨C, LN, CB, LK, R, F, N, l, a, rfl⟩

theorem modLink_worked (k : LinkId) (f : Link → Link) (s : State) : s.workedFrom (s.modLink k f) :=
  ⟨s.channels, s.lines, s.combiners, _, s.remote, s.events.flags, s.events.notices, s.events.lost, s.events.alertn, rfl⟩

theorem modRemote_worked (f : RemoteTable → RemoteTable) (s : State) : s.workedFrom (s.modRemote f) :=
  ⟨s.channels, s.lines, s.combiners, s.links, _, s.events.flags, s.events.notices, s.events.lost, s.events.alertn, rfl⟩

theorem raise_worked (f : Flag) (d : Byte) (s : State) : s.workedFrom (s.raise f d) := by
  obtain ⟨F, N, l, a, h⟩ := raise_only f d s
  exact ⟨s.channels, s.lines, s.combiners, s.links, s.remote, F, N, l, a, h⟩

/-- Leaving UP (R67 to R70) touches no more than `State.workedFrom` lists. -/
theorem leaveUp_worked (k : LinkId) (move : Link → Link) (s : State) : s.workedFrom (s.leaveUp k move) := by
  unfold State.leaveUp
  refine workedFrom_trans (modLink_worked k (fun l => move l.clearTransport) s) ?_
  exact workedFrom_trans
    (workedFrom_trans (workedFrom_of_changed (changedFrom_trans (staleImports_changed k _) (linkStatus_changed k false _)))
      (modRemote_worked _ _))
    (modLink_worked k _ _)

theorem enterFault_worked (k : LinkId) (cause : FaultCause) (s : State) : s.workedFrom (s.enterFault k cause) := by
  unfold State.enterFault
  simp only
  refine workedFrom_trans ?_ (raise_worked _ _ _)
  split
  · exact leaveUp_worked k _ s
  · exact modLink_worked k _ s

theorem enterUp_worked (k : LinkId) (s : State) : s.workedFrom (s.enterUp k) :=
  workedFrom_trans (workedFrom_trans (modLink_worked k _ s) (workedFrom_of_changed (linkStatus_changed k true _))) (raise_worked _ _ _)

/-- A HELLO received in SEEKING (R61). -/
theorem helloInSeeking_worked (k : LinkId) (h : Hello) (s : State) : s.workedFrom (s.helloInSeeking k h) := by
  unfold State.helloInSeeking
  simp only
  split
  · exact workedFrom_refl s
  · refine workedFrom_trans (modLink_worked k (Link.recordPeer h) s) ?_
    split
    · exact enterFault_worked k _ _
    · split
      · exact enterFault_worked k _ _
      · split
        · exact enterUp_worked k _
        · exact workedFrom_refl _

/-- A HELLO received in UP (R64). -/
theorem helloInUp_worked (k : LinkId) (h : Hello) (s : State) : s.workedFrom (s.helloInUp k h) := by
  unfold State.helloInUp
  split
  · split
    · exact workedFrom_refl s
    · exact modLink_worked k _ s
  · split
    · exact workedFrom_refl s
    · exact workedFrom_trans (workedFrom_trans (leaveUp_worked k _ s) (raise_worked _ _ _)) (helloInSeeking_worked k h _)

theorem stray_worked (k : LinkId) (s : State) : s.workedFrom (s.stray k) :=
  workedFrom_trans (modLink_worked k _ s) (raise_worked _ _ _)

/-- An accepted RRES (R130, R132, R133). -/
theorem takeRres_worked (k : LinkId) (tag kind status : Byte) (data : List Byte) (s : State) :
    s.workedFrom (s.takeRres k tag kind status data) := by
  unfold State.takeRres
  split
  · exact stray_worked k s
  · split
    · exact modRemote_worked _ s
    · exact stray_worked k s
    · split
      · exact workedFrom_trans (modRemote_worked _ s) (raise_worked _ _ _)
      · exact stray_worked k s
    · exact workedFrom_trans (modRemote_worked _ s) (raise_worked _ _ _)

/-- An accepted RREQ (R138). -/
theorem takeRreq_worked (k : LinkId) (tag kind : Byte) (body : List Byte) (s : State) :
    s.workedFrom (s.takeRreq k tag kind body) := by
  unfold State.takeRreq
  split
  · exact modLink_worked k _ s
  · exact stray_worked k s
  · exact stray_worked k s

theorem applyEntries_worked (k : LinkId) (es : List ChangeEntry) (s : State) : s.workedFrom (es.foldl (State.applyEntry k) s) := by
  induction es generalizing s with
  | nil => exact workedFrom_refl s
  | cons e es ih =>
    refine workedFrom_trans ?_ (ih _)
    unfold State.applyEntry
    split
    · exact workedFrom_of_changed (update_changed _ _ _ _ _ s)
    · exact stray_worked k s

/-- What an accepted data frame does (R89). -/
theorem handOn_worked (k : LinkId) (kind : DataKind) (body : List Byte) (s : State) : s.workedFrom (s.handOn k kind body) := by
  unfold State.handOn
  split
  · exact applyEntries_worked k _ s
  · split
    · exact takeRreq_worked k _ _ _ s
    · exact workedFrom_refl s
  · split
    · exact takeRres_worked k _ _ _ _ s
    · exact workedFrom_refl s

theorem classify_worked (k : LinkId) (kind : DataKind) (seq : Byte) (body : List Byte) (s : State) :
    s.workedFrom (s.classify k kind seq body) := by
  unfold State.classify
  simp only
  split
  · exact workedFrom_trans (modLink_worked k _ s) (handOn_worked k kind body _)
  · split
    · exact modLink_worked k _ s
    · exact modLink_worked k _ s

theorem badFrame_worked (k : LinkId) (s : State) : s.workedFrom (s.badFrame k) :=
  workedFrom_trans (modLink_worked k _ s) (raise_worked _ _ _)

/-- A received frame, whatever the state of its link (R84). -/
theorem takeFrame_worked (k : LinkId) (f : LinkFrame) (good : Bool) (s : State) : s.workedFrom (s.takeFrame k f good) := by
  unfold State.takeFrame
  split
  · exact workedFrom_refl s
  · exact workedFrom_refl s
  · split
    · refine workedFrom_trans (modLink_worked k Link.countGood s) ?_
      unfold State.handleInSeeking
      split
      · split
        · exact helloInSeeking_worked k _ _
        · exact workedFrom_refl _
      · exact workedFrom_refl _
    · exact badFrame_worked k s
  · split
    · refine workedFrom_trans (modLink_worked k (fun l =>
        Link.takeAck f.ack { l.countGood with silenceTimer := some (ofTenMs l.config.silence) }) s) ?_
      unfold State.handleInUp
      split
      · split
        · exact helloInUp_worked k _ _
        · exact workedFrom_refl _
      · split
        · exact classify_worked k _ _ _ _
        · exact workedFrom_refl _
    · exact badFrame_worked k s

/-- A byte on a link line (R197, R84). -/
theorem linkByte_worked (k : LinkId) (b : Byte) (s : State) : s.workedFrom (s.linkByte k b) := by
  unfold State.linkByte
  simp only
  split
  · exact modLink_worked k _ s
  · exact workedFrom_trans (modLink_worked k _ s) (takeFrame_worked k _ _ _)

theorem retransmitExpiry_worked (k : LinkId) (s : State) : s.workedFrom (s.retransmitExpiry k) := by
  unfold State.retransmitExpiry
  simp only
  refine workedFrom_trans (modLink_worked k (fun l =>
    { l with
      counters := { l.counters with timerExpiries := satAdd l.counters.timerExpiries 1 }
      retryCount := l.retryCount + 1 }) s) ?_
  split
  · exact enterFault_worked k _ _
  · exact modLink_worked k _ _

theorem silenceExpiry_worked (k : LinkId) (s : State) : s.workedFrom (s.silenceExpiry k) :=
  workedFrom_trans (leaveUp_worked k _ s) (raise_worked _ _ _)

theorem entryTimeout_worked (tag : Byte) (s : State) : s.workedFrom (s.entryTimeout tag) := by
  unfold State.entryTimeout
  split
  · exact workedFrom_refl s
  · exact workedFrom_trans (modRemote_worked _ s) (raise_worked _ _ _)

/-! ### The host port -/

/-- A framing error touches the host port's framer and counters, and what a raised flag touches (R162, R163, R165). -/
theorem framingError_only (s : State) :
    ∃ H F N l a, s.framingError =
      { s with host := H, events := { s.events with flags := F, notices := N, lost := l, alertn := a } } := by
  unfold State.framingError
  obtain ⟨F, N, l, a, h⟩ := raise_only .hostFraming 0
    (s.modHost fun h =>
      { h.count (fun n => { n with framingErrors := satAdd n.framingErrors 1 }) with framer := .hunt, gapTimer := none })
  exact ⟨_, F, N, l, a, h⟩

/-- A good host frame touches the host port, and what a raised flag touches (R168 to R170). -/
theorem goodHostFrame_only (f : HostFrame) (s : State) :
    ∃ H F N l a, s.goodHostFrame f =
      { s with host := H, events := { s.events with flags := F, notices := N, lost := l, alertn := a } } := by
  unfold State.goodHostFrame
  split
  · unfold State.hostOverrun
    obtain ⟨F, N, l, a, h⟩ := raise_only .hostOverrun 0
      (s.modHost (HostPort.count fun n => { n with overruns := satAdd n.overruns 1 }))
    exact ⟨_, F, N, l, a, h⟩
  · split
    · exact ⟨_, s.events.flags, s.events.notices, s.events.lost, s.events.alertn, rfl⟩
    · split
      · unfold State.seqGap
        obtain ⟨F, N, l, a, h⟩ := raise_only .hostSeqGap 0
          (s.modHost (HostPort.count fun n => { n with sequenceGaps := satAdd n.sequenceGaps 1 }))
        exact ⟨_, F, N, l, a, by rw [h]; rfl⟩
      · exact ⟨_, s.events.flags, s.events.notices, s.events.lost, s.events.alertn, rfl⟩

/-- The last byte of a host frame touches no more (R164). -/
theorem hostFrameComplete_only (len : Byte) (got : List Byte) (s : State) :
    ∃ H F N l a, s.hostFrameComplete len got =
      { s with host := H, events := { s.events with flags := F, notices := N, lost := l, alertn := a } } := by
  have crc : ∃ H F N l a, s.hostCrcError =
      { s with host := H, events := { s.events with flags := F, notices := N, lost := l, alertn := a } } := by
    unfold State.hostCrcError
    obtain ⟨F, N, l, a, h⟩ := raise_only .hostCrc 0
      (s.modHost (HostPort.count fun n => { n with crcErrors := satAdd n.crcErrors 1 }))
    exact ⟨_, F, N, l, a, h⟩
  unfold State.hostFrameComplete
  split
  · simp only
    split
    · exact goodHostFrame_only _ s
    · exact crc
  · exact crc

/-- A byte at the host port touches no more (R162). -/
theorem hostByte_only (b : Byte) (s : State) :
    ∃ H F N l a, s.hostByte b =
      { s with host := H, events := { s.events with flags := F, notices := N, lost := l, alertn := a } } := by
  have same (H : HostPort) : ∃ H' F N l a, ({ s with host := H } : State) =
      { s with host := H', events := { s.events with flags := F, notices := N, lost := l, alertn := a } } :=
    ⟨H, s.events.flags, s.events.notices, s.events.lost, s.events.alertn, rfl⟩
  unfold State.hostByte
  split
  · exact same _
  · split
    · obtain ⟨H, F, N, l, a, h⟩ := framingError_only s
      exact ⟨_, F, N, l, a, by rw [h]; rfl⟩
    · exact same _
  · split
    · obtain ⟨H, F, N, l, a, h⟩ := hostFrameComplete_only _ _ (s.modHost fun h => { h with framer := .hunt, gapTimer := none })
      exact ⟨H, F, N, l, a, h⟩
    · exact same _
  · exact same s.host

end Sys2Proof.Machine
end

