-- ==== Sys2Proof/Tests/Slice0.lean ====
section
/-! SUPPORT. Tests: the well-formedness smoke, single steps against the spec's examples, and for each statement with hypotheses a state and operands that meet them. -/

open Sys2Proof.Machine

namespace Sys2Proof.Tests

set_option Elab.async false

/-! ### Small states -/

/-- The host port holds an accepted request. -/
def asked (kind : Byte) (body : List Byte) (s : State) : State :=
  s.modHost fun h => { h with accepted := some ⟨0, kind, body⟩, outstanding := true, lastSeq := some 0, cache := none }

/-- The inbound slot of link `k` holds a request, under a policy. -/
def slotHolds (k : LinkId) (policy : Policy) (kind : Byte) (body : List Byte) (s : State) : State :=
  s.modLink k fun l => { l with state := .up, policy := policy, slot := .waiting 9 kind body }

/-- Channel 3 has a source, a state and a value. -/
def bound (src : ChannelSource) (st : Validity) (v : Bool) (s : State) : State :=
  s.setChan 3 { Channel.reset with source := src, state := st, value := v }

/-- The state after a command. -/
def after (c : Instr) (s : State) : State :=
  match exec c s with
  | .next t => t
  | .fault f => nomatch f
  | .refused _ => s

/-- The hub after a list of commands. -/
def afterAll (cs : List Instr) (s : State) : State := cs.foldl (fun t c => after c t) s

/-- A link in UP with one frame in its retransmit queue and one entry pending. -/
def upLink : Link :=
  { Link.reset with
    state := .up, session := 1, peerNode := some 7, peerSession := 3, peerWindow := 4, seen := true, silenceTimer := some 2000,
    keepaliveTimer := some 500, nextSend := 1, queue := [⟨0, .rreq, [5, 1]⟩], retransmitTimer := some 200, exported := 8,
    changes := [⟨3, true, true, 1⟩], slot := .waiting 9 0x02 [] }

/-- A hub at work: link 0 UP, a request of its own SENT and another DONE, channel 3 host driven, channel 4 on combiner 0 with
channel 3 as its member, channel 5 on input line 2, channel 6 the status of link 0, channel 7 imported. -/
def busy : State :=
  let s := State.reset.modLink 0 fun _ => upLink
  let s := s.setChan 3 { Channel.reset with source := .host, state := .valid, value := true }
  let s := s.setChan 4 { Channel.reset with source := .combiner 0, state := .valid, value := true }
  let s := s.setChan 5 { Channel.reset with source := .line 2, state := .valid }
  let s := s.setChan 6 { Channel.reset with source := .linkStat 0, state := .valid, value := true }
  let s := s.setChan 7 { Channel.reset with source := .link 0, state := .valid, value := true }
  let s := s.setComb 0 { Combiner.reset with members := [⟨3, false⟩], outValue := true, outValid := true }
  let s := s.setLine 2 { Line.reset with mode := .input, debounce := 20, raw := true, interval := some 20 }
  s.modRemote fun t =>
    { t with
      entries := [⟨5, 0, 1, [], 50, .sent, false, 0, [], some 100⟩, ⟨6, 0, 2, [], 50, .done, false, 0x0B, [], none⟩]
      doneOrder := [6], nextTag := 7 }

/-- Every running timer has run out. -/
def timesUp (s : State) : State :=
  let due (t : Timer) : Timer := t.map fun _ => 0
  { s with
    lines := tabulate fun n => { s.lineAt n with interval := due (s.lineAt n).interval }
    links := tabulate fun k =>
      let l := s.linkAt k
      { l with
        helloTimer := due l.helloTimer, keepaliveTimer := due l.keepaliveTimer, silenceTimer := due l.silenceTimer,
        holdOffTimer := due l.holdOffTimer, retransmitTimer := due l.retransmitTimer, ackTimer := due l.ackTimer,
        gapTimer := due l.gapTimer }
    remote := { s.remote with entries := s.remote.entries.map fun e => { e with timer := due e.timer } }
    host := { s.host with gapTimer := due s.host.gapTimer } }

/-- Link 0 in UP with two frames unacknowledged, its retransmit timer run out, while another frame is on the line. -/
def awaitingAck : State :=
  timesUp (busy.modLink 0 fun l =>
    { l with queue := [⟨0, .rreq, [5, 1]⟩, ⟨1, .change, [0xC3, 0x01]⟩], nextSend := 2, line := some [] })

/-- The ACK that covers the first of these two. -/
def ackOfFirst : List Instr := (LinkFrame.bytes ⟨2, 0, 1, []⟩).map (.linkByteReceived 0)

/-- A request that the host asks for is the executor's grant. -/
theorem asked_grants (kind : Byte) (body : List Byte) :
    (asked kind body State.reset).Grants ⟨.host, ⟨0, kind, body⟩⟩ kind body := ⟨rfl, rfl, rfl, rfl, rfl⟩

/-! ### Well-formedness and the rows without bits -/

/-- R162: 5 is a LEN, so it is no bad length. -/
theorem test_badLength_five_refused : Instr.wellFormed (.hostBadLength 5) = false := by decide
theorem test_badLength_one_and_64_refused : (Instr.wellFormed (.hostBadLength 1) || Instr.wellFormed (.hostBadLength 64)) = false := by
  decide
theorem test_badLength_zero_and_65_accepted : (Instr.wellFormed (.hostBadLength 0) && Instr.wellFormed (.hostBadLength 65)) = true := by
  decide
theorem test_no_row_has_bits : decodeTableWord 8 0x5A = none := rfl

/-! ### Formats, against the examples of chapter 11 -/

theorem test_crc_nine_characters : crc16 [0x31, 0x32, 0x33, 0x34, 0x35, 0x36, 0x37, 0x38, 0x39] = 0x29B1 := by decide +kernel
theorem test_identify_frame_bytes : HostFrame.bytes ⟨0, 0x01, []⟩ = [0x5A, 0x01, 0x00, 0x01, 0xEB, 0x8D] := by decide +kernel
theorem test_change_entry_bytes : ChangeEntry.bytes ⟨8, true, true, 4⟩ = [0xC8, 0x04] := by decide
theorem test_channel_set_bytes : (channelsOfBytes [0x00, 0x10]).getLsbD 12 = true := by decide
theorem test_default_alert_mask : bytesOfFlags EventUnit.defaultAlertMask = [0x00, 0x07, 0xF8, 0x00] := by decide

/-! ### Single steps -/

/-- R158, R189: the straps at RATE1 0, RATE0 1 select 460800, and START with cause POWER begins. -/
theorem test_powerResetExit_sends_start :
    (after (.powerResetExit false true) busy).host.sending = some (HostFrame.bytes ⟨0, 0x40, [1, 1]⟩) := by decide +kernel
theorem test_powerResetExit_rate : (after (.powerResetExit false true) busy).host.rate = .baud460800 := by decide +kernel
theorem test_powerResetEntry_releases : ((after .powerResetEntry busy).lineAt 2).pin = .highImpedance .none := by decide +kernel

/-- R164, R169: the example frame of section 11.3 is accepted as an IDENTIFY with SEQ 0. -/
theorem test_host_frame_accepted :
    (afterAll ([0x5A, 0x01, 0x00, 0x01, 0xEB].map .hostByteReceived ++ [.hostFrameReceived 0x8D]) State.reset).host.accepted =
      some ⟨0, 1, []⟩ := by decide +kernel
theorem test_host_crc_error :
    (afterAll ([0x5A, 0x01, 0x00, 0x01, 0xEB].map .hostByteReceived ++ [.hostFrameReceived 0x8C]) State.reset).host.counters.crcErrors
      = 1 := by decide +kernel
/-- R162: a bad LEN that is 0x5A is taken as SYNC. -/
theorem test_bad_length_sync : (afterAll [.hostByteReceived 0x5A, .hostBadLength 0x5A] State.reset).host.framer = .length := by
  decide +kernel
theorem test_gap_expiry : (after .hostGapTimerExpiry (timesUp (after (.hostByteReceived 0x5A) State.reset))).host.counters.framingErrors = 1 := by
  decide +kernel
theorem test_character_error_in_hunt : (after .hostCharacterError State.reset).host.counters.framingErrors = 0 := by decide +kernel

/-- R153. -/
theorem test_identify :
    (after .identify (asked 0x01 [] State.reset)).host.cache =
      some ⟨0, 0x81, [0, 0x2B, 0x24, 0x04, 1, 24, 64, 8, 4, 6, 16, 0]⟩ := by decide +kernel
theorem test_status : (after .status (asked 0x02 [] busy)).host.cache = some ⟨0, 0x82, [0, 2, 0, 0, 0, 2, 1, 0, 0, 1, 0, 0]⟩ := by
  decide +kernel
theorem test_unknown_kind : (after .unknownKindRequest (asked 0x1B [] State.reset)).host.cache = some ⟨0, 0x80, [1]⟩ := by
  decide +kernel
/-- R155, R157, R189: RESET, the end of the START that was in transmission, then the end of its reply: START with cause SOFT begins. -/
theorem test_soft_reset :
    (afterAll [.reset, .hostTxEnd, .hostTxEnd] (asked 0x03 [] (after (.powerResetExit false false) State.reset))).host.sending =
      some (HostFrame.bytes ⟨0, 0x40, [1, 2]⟩) := by decide +kernel
theorem test_setNode : (after .setNode (asked 0x04 [254] State.reset)).node = 254 := by decide +kernel
theorem test_setNode_255 : ((after .setNode (asked 0x04 [255] State.reset)).host.cache.map HostFrame.body) = some [3] := by
  decide +kernel

/-- R13: a channel bound to a line takes the line's value. -/
theorem test_bind_line :
    (after .channelBind (asked 0x05 [9, 1, 3] (State.reset.setLine 3 { Line.reset with mode := .input, inverted := true }))).chan 9 =
      ⟨.line 3, .valid, true, 1, false⟩ := by decide +kernel
theorem test_bind_taken_line : ((after .channelBind (asked 0x05 [9, 1, 2] busy)).host.cache.map HostFrame.body) = some [5] := by
  decide +kernel
theorem test_unbind : (after .channelUnbind (asked 0x06 [3] busy)).chan 3 = ⟨.none, .unknown, true, 0, false⟩ := by decide +kernel
/-- Section 1.10: DRIVE_1 of a channel that is VALID with value 1 changes nothing. -/
theorem test_drive1_again : (after .channelSetDrive1 (asked 0x07 [3, 1] busy)).chan 3 = busy.chan 3 := by decide +kernel
theorem test_drive0_moves_combiner : ((after .channelSetDrive0 (asked 0x07 [3, 0] busy)).chan 4) = ⟨.combiner 0, .valid, false, 1, false⟩ := by
  decide +kernel
/-- R18: PULSE of an UNKNOWN channel with held value 1 gives value 0 and two edges. -/
theorem test_pulse_unknown :
    (after .channelSetPulse (asked 0x07 [3, 2] (bound .host .unknown true State.reset))).chan 3 = ⟨.host, .valid, false, 2, false⟩ := by
  decide +kernel
theorem test_withdraw : ((after .channelSetWithdraw (asked 0x07 [3, 3] busy)).chan 3) = ⟨.host, .stale, true, 0, false⟩ := by
  decide +kernel
theorem test_watch : ((after .channelWatch (asked 0x08 [63, 1] State.reset)).chan 63).watch = true := by decide +kernel
theorem test_channelRead :
    ((after .channelRead (asked 0x09 [3, 2] busy)).host.cache.map HostFrame.body) =
      some [0, 3, 2, 0x02, 0x15, 0, 0, 0x04, 0x05, 0, 0] := by decide +kernel

/-- Section 2.6: with debounce 20 a sample that differs starts an interval of 2 ms, and one that agrees abandons it. -/
theorem test_sample_starts_interval :
    ((after (.lineSample 3 true) (State.reset.setLine 3 { Line.reset with mode := .input, debounce := 20 })).lineAt 3).interval =
      some 20 := by decide +kernel
theorem test_sample_abandons_interval : ((after (.lineSample 2 false) busy).lineAt 2).interval = none := by decide +kernel
theorem test_debounce_expiry : (after (.debounceExpiry 2) (timesUp busy)).chan 5 = ⟨.line 2, .valid, true, 1, false⟩ := by decide +kernel
/-- R30: an interval with time left has not expired. -/
theorem test_debounce_has_time_left : (after (.debounceExpiry 2) busy).chan 5 = busy.chan 5 := by decide +kernel
theorem test_lineConfig_output :
    ((after .lineConfig (asked 0x0A [23, 2, 0, 1, 0, 0, 0, 0xFF, 0, 0] State.reset)).lineAt 23).drive = .driving1 := by decide +kernel
theorem test_lineConfig_conflict :
    ((after .lineConfig (asked 0x0A [2, 0, 0, 0, 0, 0, 0, 0xFF, 0, 0] busy)).host.cache.map HostFrame.body) = some [5] := by decide +kernel
theorem test_lineSet_wrong_state : ((after .lineSet (asked 0x0B [2, 1] busy)).host.cache.map HostFrame.body) = some [7] := by
  decide +kernel
theorem test_lineRead :
    ((after .lineRead (asked 0x0C [2, 1] busy)).host.cache.map HostFrame.body) = some [0, 2, 1, 0x01, 20, 0xFF, 0x10, 0, 0] := by
  decide +kernel

theorem test_combinerConfig :
    ((after .combinerConfig (asked 0x0D [1, 2, 1, 2, 2, 3, 0, 6, 0] busy)).host.cache.map HostFrame.body) = some [0, 0, 1] := by
  decide +kernel
theorem test_combinerConfig_loop :
    ((after .combinerConfig (asked 0x0D [1, 1, 0, 0, 1, 4, 0] busy)).host.cache.map HostFrame.body) = some [6] := by decide +kernel
theorem test_combinerRead :
    ((after .combinerRead (asked 0x0E [0] busy)).host.cache.map HostFrame.body) = some [0, 0, 1, 0, 0, 1, 3, 6, 1, 0, 1, 1] := by
  decide +kernel

/-- R58, R74: ENABLE enters SEEKING with session 1 and the HELLO of R60 begins. -/
theorem test_link_enable :
    ((after .linkControlEnable (asked 0x0F [2, 1] { State.reset with node := 5 })).linkAt 2).line =
      some (LinkFrame.bytes ⟨1, 0, 0, [1, 5, 1, 0, 0, 4]⟩) := by decide +kernel
theorem test_link_enable_without_node :
    ((after .linkControlEnable (asked 0x0F [2, 1] State.reset)).host.cache.map HostFrame.body) = some [9] := by decide +kernel
theorem test_link_disable_stales : ((after .linkControlDisable (asked 0x0F [0, 2] busy)).chan 7).state = .stale := by decide +kernel
theorem test_link_restart_session : ((after .linkControlRestart (asked 0x0F [0, 3] busy)).linkAt 0).session = 2 := by decide +kernel
theorem test_linkConfig_up :
    ((after .linkConfig (asked 0x10 [0, 50, 20, 20, 4, 4, 1] busy)).host.cache.map HostFrame.body) = some [7] := by decide +kernel
theorem test_linkPolicy : ((after .linkPolicy (asked 0x11 [3, 3] State.reset)).linkAt 3).policy = .full := by decide +kernel
theorem test_linkStatus :
    ((after .linkStatus (asked 0x12 [0] busy)).host.cache.map HostFrame.body) =
      some [0, 0, 2, 1, 7, 3, 4, 0, 1, 1, 1, 50, 20, 20, 4, 4, 1] := by decide +kernel
theorem test_linkExport_loop :
    ((after .linkExport (asked 0x13 [0, 1, 0x80] busy)).host.cache.map HostFrame.body) = some [6] := by decide +kernel
theorem test_linkExport : ((after .linkExport (asked 0x13 [1, 2, 0x80, 0x01] busy)).linkAt 1).exported = 0x180 := by decide +kernel
theorem test_linkStats_clears :
    ((after .linkStats (asked 0x14 [1, 1] (State.reset.modLink 1 Link.countSent))).linkAt 1).counters = LinkCounters.zero := by
  decide +kernel
/-- R125: the first tag from the counter on that no entry holds. -/
theorem test_remoteSend_tag :
    ((after .remoteSend (asked 0x15 [0, 5, 1] (busy.modRemote fun t => { t with nextTag := 5 }))).host.cache.map HostFrame.body) =
      some [0, 7] := by decide +kernel
theorem test_remoteSend_not_up :
    ((after .remoteSend (asked 0x15 [1, 5, 1] busy)).host.cache.map HostFrame.body) = some [10] := by decide +kernel

theorem test_eventsRead :
    ((after .eventsRead (asked 0x16 [] State.reset)).host.cache.map HostFrame.body) =
      some [0, 0, 0, 0, 0, 0x7F, 0xFF, 0xFF, 0xFF, 0x00, 0x07, 0xF8, 0x00, 0xFF, 0, 0, 0, 0, 1] := by decide +kernel
/-- R191: LINK_LOST_0 is in the alert mask after reset; clearing it releases ALERTN. -/
theorem test_silence_alerts : (after (.silenceTimerExpiry 0) (timesUp busy)).events.alertn = true := by decide +kernel
theorem test_eventsClear_releases :
    (after .eventsClear (asked 0x17 [0, 0, 0x08, 0] (after (.silenceTimerExpiry 0) (timesUp busy)))).events.alertn = false := by decide +kernel
theorem test_noticeConfig : (after .noticeConfig (asked 0x18 [0x80, 0, 0, 1] State.reset)).events.noticeMask = 1 := by decide +kernel
theorem test_alertConfig_unknown_channel : (after .alertConfig (asked 0x19 [0, 0, 0, 0, 63, 1] State.reset)).events.alertn = true := by
  decide +kernel
theorem test_hostStats :
    ((after .hostStats (asked 0x1A [0] (after .hostGapTimerExpiry (timesUp (after (.hostByteReceived 0x5A) State.reset))))).host.cache.map
      HostFrame.body) = some [0, 0, 0, 0, 1, 0, 0, 0, 0, 0, 0] := by decide +kernel

/-- R61, R63: a HELLO that echoes the session brings a SEEKING link UP. -/
theorem test_hello_brings_up :
    ((afterAll ((LinkFrame.bytes ⟨1, 0, 0, [1, 7, 3, 1, 1, 4]⟩).map (.linkByteReceived 2))
      (after .linkControlEnable (asked 0x0F [2, 1] { State.reset with node := 5 }))).linkAt 2).state = .up := by decide +kernel
/-- R115, R116: an accepted CHANGE frame applies its entry to the imported channel, with value 0 and 4 edges. -/
theorem test_change_applied :
    (afterAll ((LinkFrame.bytes ⟨3, 0, 0, [0x47, 0x04]⟩).map (.linkFrameReceived 0)) busy).chan 7 = ⟨.link 0, .valid, false, 4, false⟩ := by
  decide +kernel
/-- R86, R87: the ack of the one frame empties the queue and stops the retransmit timer. -/
theorem test_ack_empties_queue :
    ((afterAll ((LinkFrame.bytes ⟨2, 0, 1, []⟩).map (.linkByteReceived 0)) (busy.modLink 0 fun l => { l with line := some [] })).linkAt
      0).retransmitTimer = none := by decide +kernel
theorem test_framer_gap :
    ((after (.linkFramerGapExpiry 1) (timesUp (after (.linkByteReceived 1 0xC3) State.reset))).linkAt 1).framer = .hunting := by
  decide +kernel
theorem test_hello_timer :
    ((after (.helloTimerExpiry 2) (timesUp (State.reset.modLink 2 Link.toSeeking))).linkAt 2).helloTimer = some 100 := by decide +kernel
theorem test_keepalive_timer :
    ((after (.keepaliveTimerExpiry 0) (timesUp (busy.modLink 0 fun l => { l with line := some [] }))).linkAt 0).keepaliveDue = true := by
  decide +kernel
theorem test_hold_off :
    ((after (.holdOffExpiry 1) (timesUp (State.reset.modLink 1 (Link.toFault .version)))).linkAt 1).state = .seeking := by decide +kernel
/-- R96: the ack is taken first. The timer has started again, the expiry does not occur, and no go-back begins. -/
theorem test_ack_before_expiry :
    let l := (after (.retransmitTimerExpiry 0) (afterAll ackOfFirst awaitingAck)).linkAt 0
    (l.resendPoint, l.retryCount, l.retransmitTimer, l.counters.timerExpiries) = (none, 0, some 200, 0) := by decide +kernel
/-- R96: the expiry is taken first. A go-back begins, and the ack moves its resend point. -/
theorem test_expiry_before_ack :
    let l := (afterAll ackOfFirst (after (.retransmitTimerExpiry 0) awaitingAck)).linkAt 0
    (l.resendPoint, l.retryCount, l.retransmitTimer, l.counters.timerExpiries) = (some 1, 0, some 200, 1) := by decide +kernel
theorem test_retry_limit_faults :
    ((after (.retransmitTimerExpiry 0) (timesUp (busy.modLink 0 fun l => { l with retryCount := 4 }))).linkAt 0).lastFault = .retryLimit := by
  decide +kernel
theorem test_ack_timer_sends_ack :
    ((after (.ackTimerExpiry 0) (busy.modLink 0 fun l => { l with ackOwed := true, ackTimer := some 0, changes := [] })).linkAt
      0).line = some (LinkFrame.bytes ⟨2, 0, 0, []⟩) := by decide +kernel
/-- R112: at the end of a frame the pending entries leave in a CHANGE frame. -/
theorem test_linkTxEnd_sends_change :
    ((after (.linkTxEnd 0) (busy.modLink 0 fun l => { l with line := some [] })).linkAt 0).line =
      some (LinkFrame.bytes ⟨3, 1, 0, [0xC3, 0x01]⟩) := by decide +kernel
/-- R131: a SENT entry that times out becomes DONE with the orphan mark. -/
theorem test_entry_timeout :
    ((after (.remoteEntryTimeout 5) (timesUp (busy.modHost fun h => { h with sending := some [] }))).remote.entries.map RemoteEntry.orphanMark) =
      [true, false] := by decide +kernel

/-! ### The laws hold of a hub at work -/

theorem busy_sources : busy.oneChannelPerSource := by unfold State.oneChannelPerSource; decide +kernel
theorem busy_nesting : busy.noNesting := by unfold State.noNesting; decide +kernel
theorem busy_combiners : busy.combinersGiveValues := by unfold State.combinersGiveValues; decide +kernel

theorem witness_EveryStepKeepsAlertExact : busy.alertExact ∧ ∃ t, step busy = .next t := ⟨by unfold State.alertExact; decide +kernel, _, rfl⟩
theorem witness_EveryStepKeepsNoticeLaw : busy.NoticeLaw ∧ ∃ t, step busy = .next t :=
  ⟨⟨by decide +kernel, by decide +kernel, by decide +kernel⟩, _, rfl⟩
theorem busy_channelLaw : busy.ChannelLaw where
  sources := busy_sources
  sourceless := by unfold State.sourcelessUnknown; decide +kernel
  echo := by unfold State.noEcho; decide +kernel
  nesting := busy_nesting
  lines := by unfold State.linesGiveValues; decide +kernel
  combiners := busy_combiners
  current := by unfold State.combinersCurrent; decide +kernel
  linkStatus := by unfold State.linkStatusTold; decide +kernel
  imports := by unfold State.importsBacked; decide +kernel
theorem upLink_law : upLink.Law where
  queue := ⟨by decide, by decide, by unfold consecutive; decide, by decide, by decide, by decide⟩
  list := ⟨by decide, by decide, by decide, by decide⟩
  session := ⟨by decide, by decide, by decide, by decide, by decide, by decide, by decide, by decide, by decide, by decide⟩
theorem resetLink_law : Link.reset.Law where
  queue := ⟨by decide, by decide, by unfold consecutive; decide, by decide, by decide, by decide⟩
  list := ⟨by decide, by decide, by decide, by decide⟩
  session := ⟨by decide, by decide, by decide, by decide, by decide, by decide, by decide, by decide, by decide, by decide⟩
theorem busy_links : ∀ k, busy.linkAt k = upLink ∨ busy.linkAt k = Link.reset := by decide +kernel
theorem busy_linkLaw : busy.LinkLaw := fun k => (busy_links k).elim (fun h => h ▸ upLink_law) fun h => h ▸ resetLink_law
theorem witness_EveryStepKeepsChannelLaw : busy.ChannelLaw ∧ busy.LinkLaw ∧ ∃ t, step busy = .next t :=
  ⟨busy_channelLaw, busy_linkLaw, _, rfl⟩
theorem witness_EveryStepKeepsLinkLaw : busy.LinkLaw ∧ ∃ t, step busy = .next t := ⟨busy_linkLaw, _, rfl⟩
theorem witness_EveryStepKeepsRemoteLaw : busy.RemoteLaw ∧ busy.LinkLaw ∧ ∃ t, step busy = .next t :=
  ⟨⟨by decide +kernel, by decide +kernel, by decide +kernel, by decide +kernel, by decide +kernel, by decide +kernel,
    by decide +kernel⟩, busy_linkLaw, _, rfl⟩
theorem witness_EveryStepKeepsHostLaw : (asked 0x01 [] busy).HostLaw ∧ ∃ t, step (asked 0x01 [] busy) = .next t :=
  ⟨⟨rfl, by decide, (fun _ h => by cases h; rfl), (fun _ h => by cases h), by decide, by decide⟩, _, rfl⟩
theorem witness_EveryStepKeepsLineAndCombinerLaws :
    (∀ n, (busy.lineAt n).Law) ∧ (∀ m, (busy.comb m).Law) ∧ ∃ t, step busy = .next t :=
  ⟨fun n =>
    ⟨(by decide +kernel : ∀ n, (busy.lineAt n).mode ≠ .output → (busy.lineAt n).drive = .released) n,
     (by decide +kernel : ∀ n, (busy.lineAt n).interval.isSome ↔
       (busy.lineAt n).mode = .input ∧ (busy.lineAt n).raw ≠ (busy.lineAt n).debounced) n,
     (by decide +kernel : ∀ n, (busy.lineAt n).mode ≠ .input → (busy.lineAt n).debounced = (busy.lineAt n).raw) n⟩,
   fun m =>
    ⟨(by decide +kernel : ∀ m, (busy.comb m).members.length ≤ Config.memberCapacity) m,
     (by decide +kernel : ∀ m, ((busy.comb m).members.map Member.channel).Nodup) m,
     (by decide +kernel : ∀ m, 1 ≤ (busy.comb m).threshold) m,
     (by decide +kernel : ∀ m, (busy.comb m).members ≠ [] → (busy.comb m).threshold ≤ (busy.comb m).members.length) m,
     (by decide +kernel : ∀ m, (busy.comb m).members = [] → (busy.comb m).threshold = 1) m⟩,
   _, rfl⟩

/-! ### Witnesses: the step, reset, the executor -/

theorem witness_IdleStepPassesTime :
    (State.reset.pending = [] ∧ State.reset.held = false) ∧ (after .powerResetEntry State.reset).pending = [] ∧
      (after .powerResetEntry State.reset).held = true := ⟨⟨rfl, rfl⟩, rfl, rfl⟩
theorem witness_PowerResetStopsTheHub :
    (after .powerResetEntry busy).held = true ∧ Instr.identify ≠ .powerResetEntry ∧ ∀ a b, Instr.identify ≠ .powerResetExit a b :=
  ⟨rfl, by decide, by decide⟩
theorem witness_HostTxEndFreesOrResets :
    (State.reset.held = false ∧ State.reset.host.sending = none) ∧
    (let s := after .reset (asked 0x03 [] State.reset)
     s.held = false ∧ s.host.sending ≠ none ∧ s.executor.resetPending = true ∧ s.host.queued = none) ∧
    (let s := State.reset.settle
     s.held = false ∧ s.host.sending ≠ none ∧ s.executor.resetPending = false) := by decide +kernel
theorem witness_GrantIsFirstReadyAndRoundRobin :
    (after .reset (asked 0x03 [] State.reset)).executor.resetPending = true ∧
    (let s := asked 0x01 [] busy
     s.executor.resetPending = false ∧ s.nextGrant = some ⟨.host, ⟨0, 1, []⟩⟩ ∧ (s.readyRequest (.slot 0)).isSome ∧
       Source.host ≠ .slot 0) := by decide +kernel
theorem witness_GrantMovesPointerAndReplyGoesToOrigin : (busy.linkAt 0).slot = .waiting 9 0x02 [] := by decide +kernel
theorem witness_ChecksFallInOrder_length :
    let s := asked 0x04 [] State.reset
    let g : Grant := ⟨.host, ⟨0, 4, []⟩⟩
    s.held = false ∧ s.nextGrant = some g ∧ requestsOf .setNode g.req = true ∧ isRequestKind 4 = true ∧ lengthFits 4 [] = false := by
  decide +kernel
theorem witness_ChecksFallInOrder_kind :
    let s := asked 0x1B [] State.reset
    let g : Grant := ⟨.host, ⟨0, 0x1B, []⟩⟩
    s.held = false ∧ s.nextGrant = some g ∧ requestsOf .unknownKindRequest g.req = true ∧ isRequestKind 0x1B = false := by
  decide +kernel
theorem witness_ChecksFallInOrder_policy :
    let s := slotHolds 1 .observe 0x04 [7] State.reset
    let g : Grant := ⟨.slot 1, ⟨0, 4, [7]⟩⟩
    s.held = false ∧ s.nextGrant = some g ∧ requestsOf .setNode g.req = true ∧ isRequestKind 4 = true ∧ lengthFits 4 [7] = true ∧
      s.permits g = false := by decide +kernel
theorem witness_PolicyTable :
    (0x16 : Byte) ∈ ([0x01, 0x02, 0x09, 0x0C, 0x0E, 0x12, 0x16] : List Byte) ∧ (⟨0, 0x14, [3, 0]⟩ : HostFrame).body = [3, 0] ∧
    (⟨0, 0x1A, [1]⟩ : HostFrame).body = [1] ∧ (⟨0, 0x0F, [3, 2]⟩ : HostFrame).body = [3, 2] := by decide
theorem witness_RefusalHasNoEffect :
    (∃ r, requestsOf .identify r = true) ∧ ∀ g, (asked 0x02 [] State.reset).nextGrant = some g → requestsOf .identify g.req = false :=
  ⟨⟨⟨0, 1, []⟩, rfl⟩, fun g h => by cases h; rfl⟩

/-! ### Witnesses: the requests -/

theorem witness_HubRequestsAnswerAndAct :
    (asked 0x01 [] State.reset).Grants ⟨.host, ⟨0, 0x01, []⟩⟩ 0x01 [] ∧ (asked 0x02 [] State.reset).Grants ⟨.host, ⟨0, 0x02, []⟩⟩ 0x02 [] ∧
    (asked 0x03 [] State.reset).Grants ⟨.host, ⟨0, 0x03, []⟩⟩ 0x03 [] ∧
    (asked 0x04 [1] State.reset).Grants ⟨.host, ⟨0, 0x04, [1]⟩⟩ 0x04 [1] ∧
    (asked 0x14 [3, 1] State.reset).Grants ⟨.host, ⟨0, 0x14, [3, 1]⟩⟩ 0x14 [3, 1] ∧
    (asked 0x1A [1] State.reset).Grants ⟨.host, ⟨0, 0x1A, [1]⟩⟩ 0x1A [1] :=
  ⟨asked_grants _ _, asked_grants _ _, asked_grants _ _, asked_grants _ _, asked_grants _ _, asked_grants _ _⟩
theorem witness_unknownKind :
    (asked 0x00 [] State.reset).held = false ∧ (asked 0x00 [] State.reset).nextGrant = some ⟨.host, ⟨0, 0x00, []⟩⟩ ∧
    (asked 0x1B [] State.reset).nextGrant = some ⟨.host, ⟨0, 0x1B, []⟩⟩ := ⟨rfl, rfl, rfl⟩
theorem witness_grant_of_a_slot : (slotHolds 3 .full 0x05 [63, 4, 7] State.reset).Grants ⟨.slot 3, ⟨0, 5, [63, 4, 7]⟩⟩ 5 [63, 4, 7] :=
  ⟨rfl, by decide +kernel, rfl, rfl, by decide +kernel⟩
theorem witness_EventRequestsAnswerAndAct :
    (asked 0x16 [] State.reset).Grants ⟨.host, ⟨0, 0x16, []⟩⟩ 0x16 [] ∧
    (asked 0x17 [0, 0, 0, 1] State.reset).Grants ⟨.host, ⟨0, 0x17, [0, 0, 0, 1]⟩⟩ 0x17 [0, 0, 0, 1] ∧
    (asked 0x18 [0, 0, 0, 1] State.reset).Grants ⟨.host, ⟨0, 0x18, [0, 0, 0, 1]⟩⟩ 0x18 [0, 0, 0, 1] ∧
    (asked 0x19 [0, 0, 0, 1, 63, 1] State.reset).Grants ⟨.host, ⟨0, 0x19, [0, 0, 0, 1, 63, 1]⟩⟩ 0x19 [0, 0, 0, 1, 63, 1] ∧ 30 < 31 :=
  ⟨asked_grants _ _, asked_grants _ _, asked_grants _ _, asked_grants _ _, by decide⟩
theorem witness_ChannelBindChecksThenBinds :
    (asked 0x05 [63, 2, 0] State.reset).Grants ⟨.host, ⟨0, 5, [63, 2, 0]⟩⟩ 5 [63, 2, 0] := asked_grants _ _
theorem witness_OperandCodes :
    lineSettingsOf 2 2 1 255 1 1 63 3 1 = some ⟨.output, .down, true, 255, .openDrain, true, .channel 63, .release, true⟩ ∧
    lineSettingsOf 3 0 0 0 0 0 0 0 0 = none ∧ [0, 1, 2, 3, 4, 5, 6, (7 : Byte)].length ≤ 8 := by decide
theorem witness_ChannelUnbindAndWatch :
    (asked 0x06 [63] State.reset).Grants ⟨.host, ⟨0, 6, [63]⟩⟩ 6 [63] ∧ (asked 0x08 [63, 1] State.reset).Grants ⟨.host, ⟨0, 8, [63, 1]⟩⟩ 8 [63, 1] :=
  ⟨asked_grants _ _, asked_grants _ _⟩
theorem witness_ChannelSetDrivesHostChannels :
    channelOf 3 = some 3 ∧ ((asked 0x07 [3, 0] busy).chan 3).source = .host ∧
    (asked 0x07 [3, 0] busy).Grants ⟨.host, ⟨0, 7, [3, 0]⟩⟩ 7 [3, 0] ∧ (asked 0x07 [3, 1] busy).Grants ⟨.host, ⟨0, 7, [3, 1]⟩⟩ 7 [3, 1] ∧
    (asked 0x07 [3, 2] busy).Grants ⟨.host, ⟨0, 7, [3, 2]⟩⟩ 7 [3, 2] ∧ (asked 0x07 [3, 3] busy).Grants ⟨.host, ⟨0, 7, [3, 3]⟩⟩ 7 [3, 3] :=
  ⟨rfl, by decide +kernel, ⟨rfl, rfl, rfl, rfl, rfl⟩, ⟨rfl, rfl, rfl, rfl, rfl⟩, ⟨rfl, rfl, rfl, rfl, rfl⟩, ⟨rfl, rfl, rfl, rfl, rfl⟩⟩
theorem witness_ChannelSet_refusals :
    ((asked 0x07 [64, 2] State.reset).Grants ⟨.host, ⟨0, 7, [64, 2]⟩⟩ 7 [64, 2] ∧ requestsOf .channelSetPulse ⟨0, 7, [64, 2]⟩ = true ∧
      64 ≤ (64 : Byte).toNat) ∧
    ((asked 0x07 [63, 4] State.reset).Grants ⟨.host, ⟨0, 7, [63, 4]⟩⟩ 7 [63, 4] ∧ requestsOf .channelSetPulse ⟨0, 7, [63, 4]⟩ = true ∧
      4 ≤ (4 : Byte).toNat) ∧
    (asked 0x07 [63, 3] State.reset).Grants ⟨.host, ⟨0, 7, [63, 3]⟩⟩ 7 [63, 3] ∧
    requestsOf .channelSetWithdraw ⟨0, 7, [63, 3]⟩ = true ∧ channelOf 63 = some 63 ∧ (State.reset.chan 63).source ≠ .host :=
  ⟨⟨asked_grants _ _, by decide, by decide⟩, ⟨asked_grants _ _, by decide, by decide⟩, asked_grants _ _, by decide, by decide,
    by decide +kernel⟩
theorem witness_ReadsReportARange :
    (asked 0x09 [52, 12] State.reset).Grants ⟨.host, ⟨0, 9, [52, 12]⟩⟩ 9 [52, 12] ∧
    (asked 0x0C [16, 8] State.reset).Grants ⟨.host, ⟨0, 12, [16, 8]⟩⟩ 12 [16, 8] := ⟨asked_grants _ _, asked_grants _ _⟩
theorem witness_ReportAndFrameLayouts :
    (⟨0, 1, List.replicate 63 0⟩ : HostFrame).body.length ≤ 63 ∧ (⟨3, 0, 0, List.replicate 64 0⟩ : LinkFrame).body.length ≤ 64 := by
  decide
theorem witness_LineConfigActsByModeChange :
    (asked 0x0A [23, 1, 1, 0, 20, 0, 0, 255, 0, 0] State.reset).Grants ⟨.host, ⟨0, 10, [23, 1, 1, 0, 20, 0, 0, 255, 0, 0]⟩⟩ 10
      [23, 1, 1, 0, 20, 0, 0, 255, 0, 0] := asked_grants _ _
theorem witness_LineSetDrivesManualOutputs :
    (asked 0x0B [23, 1] State.reset).Grants ⟨.host, ⟨0, 11, [23, 1]⟩⟩ 11 [23, 1] := asked_grants _ _
theorem witness_CombinerRequestsConfigureAndRead :
    ((asked 0x0D [7, 1, 0, 3, 1, 63, 1] State.reset).Grants ⟨.host, ⟨0, 13, [7, 1, 0, 3, 1, 63, 1]⟩⟩ 13 [7, 1, 0, 3, 1, 63, 1] ∧
      lengthFits 0x0D [7, 1, 0, 3, 1, 63, 1] = true) ∧
    (asked 0x0E [7] State.reset).Grants ⟨.host, ⟨0, 14, [7]⟩⟩ 14 [7] ∧
    combinerSettingsOf 1 0 3 [63, 1] = some ⟨1, false, .propagate, [⟨63, true⟩]⟩ ∧ combinerSettingsOf 2 0 3 [63, 1] = none ∧
    (busy.oneChannelPerSource ∧ (busy.chan 4).source = .combiner 0 ∧ (busy.comb 0).outValue ≠ Combiner.reset.outValue) ∧
    (busy.chan 63).source ≠ .combiner 1 :=
  ⟨⟨asked_grants _ _, by decide⟩, asked_grants _ _, by decide, by decide, ⟨busy_sources, by decide +kernel, by decide +kernel⟩,
    by decide +kernel⟩
theorem witness_LinkControlMovesTheSession :
    (asked 0x0F [3, 1] State.reset).Grants ⟨.host, ⟨0, 15, [3, 1]⟩⟩ 15 [3, 1] ∧
    (asked 0x0F [3, 2] State.reset).Grants ⟨.host, ⟨0, 15, [3, 2]⟩⟩ 15 [3, 2] ∧
    (asked 0x0F [3, 3] State.reset).Grants ⟨.host, ⟨0, 15, [3, 3]⟩⟩ 15 [3, 3] ∧
    (asked 0x0F [3, 4] State.reset).Grants ⟨.host, ⟨0, 15, [3, 4]⟩⟩ 15 [3, 4] ∧ 3 < (4 : Byte).toNat ∧
    (asked 0x0F [3, 0] State.reset).Grants ⟨.host, ⟨0, 15, [3, 0]⟩⟩ 15 [3, 0] :=
  ⟨asked_grants _ _, asked_grants _ _, asked_grants _ _, asked_grants _ _, by decide, asked_grants _ _⟩
theorem witness_LinkRequestsConfigureAndRead :
    (asked 0x10 [3, 250, 50, 2, 15, 8, 1] State.reset).Grants ⟨.host, ⟨0, 16, [3, 250, 50, 2, 15, 8, 1]⟩⟩ 16 [3, 250, 50, 2, 15, 8, 1] ∧
    (asked 0x11 [3, 3] State.reset).Grants ⟨.host, ⟨0, 17, [3, 3]⟩⟩ 17 [3, 3] ∧
    (asked 0x12 [3] State.reset).Grants ⟨.host, ⟨0, 18, [3]⟩⟩ 18 [3] ∧
    (asked 0x13 [3, 1, 8] State.reset).Grants ⟨.host, ⟨0, 19, [3, 1, 8]⟩⟩ 19 [3, 1, 8] ∧ lengthFits 0x13 [3, 1, 8] = true :=
  ⟨asked_grants _ _, asked_grants _ _, asked_grants _ _, asked_grants _ _, by decide⟩
theorem witness_RemoteSendAcceptsAnEntry :
    (asked 0x15 [3, 1, 2] State.reset).Grants ⟨.host, ⟨0, 21, [3, 1, 2]⟩⟩ 21 [3, 1, 2] ∧ (List.replicate 57 (0 : Byte)).length ≤ 57 ∧
    busy.remote.entries.length ≤ 6 := ⟨asked_grants _ _, by decide, by decide +kernel⟩

/-! ### Witnesses: channels, lines, the event unit -/

theorem witness_UpdateIsAppliedFromItsSource :
    (busy.chan 3).source ≠ .line 2 ∧ (busy.chan 3).source = .host ∧
    (busy.oneChannelPerSource ∧ ChannelSource.exclusive (.line 2) = true ∧ (busy.chan 5).source = .line 2) ∧
    ∀ c, (busy.chan c).source ≠ .line 23 :=
  ⟨by decide +kernel, by decide +kernel, ⟨busy_sources, rfl, by decide +kernel⟩, by decide +kernel⟩
theorem witness_OfferReachesEachConsumer : ([⟨3, true, true, 15⟩, ⟨4, false, true, 0⟩].map ChangeEntry.channel).Nodup := by decide
theorem witness_ChangeCarriesThroughCombiners :
    busy.oneChannelPerSource ∧ busy.noNesting ∧ busy.combinersGiveValues ∧ (busy.chan 3).value ≠ false ∧
    (4 ≠ (3 : ChannelId) ∧ (busy.chan 4).source = .combiner 0) ∧ (busy.chan 5).source.isCombiner = false :=
  ⟨busy_sources, busy_nesting, busy_combiners, by decide +kernel, by decide +kernel, by decide +kernel⟩
theorem witness_SampleAndDebounceExpiry :
    busy.held = false ∧ (busy.lineAt 2).interval ≠ some 0 ∧
    (timesUp busy).held = false ∧ ((timesUp busy).lineAt 2).interval = some 0 := by decide +kernel
theorem witness_DriverRuleAndPin :
    (Line.reset.driver = .manual ∧ Line.reset.mode = .off) ∧
    (let l : Line := { Line.reset with mode := .output, driver := .channel 3, drive := .driving1, output := .openDrain }
     l.driver = .channel 3 ∧ l.mode ≠ .off ∧ l.drive = .driving1 ∧ l.output = .openDrain ∧ l.stale = .hold) ∧
    (busy.chan 3).state = .valid ∧ (busy.chan 63).state ≠ .valid := by decide +kernel
theorem witness_CombinerEvaluation :
    (busy.chan 3).state = .valid ∧ (busy.chan 63).state ≠ .valid ∧ Combiner.reset.members = [] ∧ (busy.comb 0).members ≠ [] ∧
    (let cb : Combiner := { Combiner.reset with members := [⟨63, true⟩], policy := .propagate }
     cb.policy = .propagate ∧ ∃ mb ∈ cb.members, (busy.chan mb.channel).state ≠ .valid) := by decide +kernel
theorem witness_RaisedCauseSetsItsFlag :
    (after (.silenceTimerExpiry 0) (timesUp busy)).events.flags.getLsbD (Flag.linkLost 0).number = true ∧
    State.reset.events.flags.getLsbD (Flag.linkStray 3).number = false := by decide +kernel

/-! ### Witnesses: links, remote requests, the host port -/

theorem witness_LeavingUpResolvesTheSession :
    Link.toOff ∈ [Link.toSeeking, Link.toOff, Link.toFault .retryLimit] ∧ busy.oneChannelPerSource ∧ (busy.linkAt 0).state = .up ∧
    (busy.chan 7).source = .link 0 ∧ (busy.chan 6).source = .linkStat 0 ∧
    ((busy.chan 3).source ≠ .link 0 ∧ (busy.chan 3).source ≠ .linkStat 0 ∧ (busy.chan 3).source.isCombiner = false) ∧ (1 : LinkId) ≠ 0 :=
  ⟨by simp, busy_sources, by decide +kernel, by decide +kernel, by decide +kernel, by decide +kernel, by decide⟩
theorem witness_HelloMovesTheSession :
    ((State.reset.modLink 2 Link.toSeeking).linkAt 2).state = .seeking ∧ (busy.linkAt 0).state = .up := by decide +kernel
theorem witness_LinkTimersAndFrameEnd :
    (busy.held = false ∧ (busy.linkAt 0).silenceTimer ≠ some 0) ∧
    (let l := (timesUp busy).linkAt 0
     (timesUp busy).held = false ∧ l.silenceTimer = some 0 ∧ l.retransmitTimer = some 0) ∧
    (let l := awaitingAck.linkAt 0
     l.retransmitTimer = some 0 ∧ 2 ≤ l.config.retransmit.toNat ∧ distance 0 1 ≠ 0 ∧ distance 0 1 ≤ distance 0 l.nextSend) := by
  decide +kernel
theorem witness_DistanceCountsSteps : 252 < distance 43 40 := by decide
theorem witness_LinkBytesAreFramed :
    (busy.held = false ∧ (busy.linkAt 0).framer = .hunting) ∧
    ((afterAll [.linkByteReceived 1 0xC3, .linkByteReceived 1 3, .linkByteReceived 1 0] State.reset).linkAt 1).framer = .header [3, 0] ∧
    ((afterAll [.linkByteReceived 1 0xC3, .linkByteReceived 1 2, .linkByteReceived 1 0, .linkByteReceived 1 0] State.reset).linkAt
      1).framer = .header [2, 0, 0] ∧
    ((afterAll ([0xC3, 2, 0, 0, 0].map (.linkByteReceived 1)) State.reset).linkAt 1).framer = .body [2, 0, 0, 0] 2 ∧
    ((afterAll ([0xC3, 2, 0, 0, 0, 9].map (.linkByteReceived 1)) State.reset).linkAt 1).framer = .body [2, 0, 0, 0, 9] 1 ∧
    64 < (65 : Byte).toNat ∧ (64 : Byte).toNat ≤ 64 := by decide +kernel
theorem witness_ReceivedFrameBySessionState :
    (State.reset.linkAt 0).state = .off ∧ ((State.reset.modLink 2 Link.toSeeking).linkAt 2).state = .seeking ∧
    (busy.linkAt 0).state = .up ∧ (⟨1, 0, 0, [1, 7, 3, 1, 1, 4]⟩ : LinkFrame).kind = 1 ∧ (⟨5, 0, 0, [5, 1, 0]⟩ : LinkFrame).kind = 5 := by
  decide +kernel
/-- The four cases of an ack: past the next number, the oldest number itself, all the records, some of them. -/
theorem witness_AckFieldRemovesRecords :
    distance 0 upLink.nextSend < distance 0 2 ∧ distance 0 0 = 0 ∧
    (distance 0 1 ≤ distance 0 upLink.nextSend ∧ distance 0 1 ≠ 0 ∧ upLink.queue.drop (distance 0 1) = []) ∧
    (let l : Link := { upLink with queue := [⟨255, .rreq, []⟩, ⟨0, .change, []⟩] }
     distance 255 0 ≤ distance 255 l.nextSend ∧ distance 255 0 ≠ 0 ∧ l.queue.drop (distance 255 0) = [⟨0, .change, []⟩]) := by decide
theorem witness_DataFramesReachTheirConsumers :
    upLink.nextExpected = 0 ∧ (1 ≤ distance 255 0 ∧ distance 248 0 ≤ 8) ∧ 8 < distance 247 0 ∧ 8 < distance 1 0 ∧
    Link.reset.slot = .empty := by decide
theorem witness_BeginningFrames :
    upLink.state = .up ∧ (upLink.queue.find? fun r => r.seq == 0) = some ⟨0, .rreq, [5, 1]⟩ ∧ Link.reset.toSeeking.state = .seeking := by
  decide
theorem witness_EntriesEndByAnswerOrTimeout :
    busy.held = false ∧ busy.remote.entries.find? (fun e => e.tag == 9) = none ∧
    busy.remote.entries.find? (fun e => e.tag == 5) = some ⟨5, 0, 1, [], 50, .sent, false, 0, [], some 100⟩ ∧
    (timesUp busy).held = false ∧
    (timesUp busy).remote.entries.find? (fun e => e.tag == 5) = some ⟨5, 0, 1, [], 50, .sent, false, 0, [], some 0⟩ := by
  decide +kernel
theorem witness_HostBytesAreFramed :
    State.reset.host.framer = .hunt ∧ (after (.hostByteReceived 0x5A) State.reset).host.framer = .length ∧
    (1 ≤ (1 : Byte).toNat ∧ (64 : Byte).toNat ≤ 64) ∧ ((0 : Byte).toNat = 0 ∧ 64 < (65 : Byte).toNat) ∧
    (afterAll [.hostByteReceived 0x5A, .hostByteReceived 1] State.reset).host.framer = .collect 1 [] 4 ∧
    (after .reset (asked 0x03 [] State.reset)).host.framer = .discard := by decide +kernel
theorem witness_HostFramesAreSorted :
    (afterAll ([0x5A, 0x01, 0x00, 0x01, 0xEB].map .hostByteReceived) State.reset).host.framer = .collect 1 [0, 1, 0xEB] 1 := by
  decide +kernel
theorem witness_OutputArbiterRanks :
    (State.reset.settle.host.sending ≠ none) ∧
    (let s := asked 0x01 [] State.reset |>.answer ⟨.host, ⟨0, 1, []⟩⟩ .ok []
     s.host.sending = none ∧ s.host.queued ≠ none) ∧
    (busy.host.sending = none ∧ busy.host.queued = none ∧ busy.executor.resetPending = false ∧ busy.remote.doneOrder = [6] ∧
      (busy.remote.entries.find? (fun x => x.tag == 6)).isSome) ∧
    (State.reset.host.queued = none ∧ State.reset.remote.doneOrder = [] ∧ State.reset.events.notices = [.start .power]) := by
  decide +kernel
theorem witness_HostFrameBytesAreTakenAsThatFrame :
    (⟨0, 1, List.replicate 63 0x5A⟩ : HostFrame).body.length ≤ 63 ∧ State.reset.host.framer = .hunt := by decide
theorem witness_LinkFrameBytesAreReceivedAsThatFrame :
    (⟨3, 0, 0, List.replicate 64 0xC3⟩ : LinkFrame).body.length ≤ 64 ∧ (busy.linkAt 0).framer = .hunting ∧
    ∀ e ∈ [(⟨63, true, false, 15⟩ : ChangeEntry)], e.edges ≤ 15 := by decide +kernel

end Sys2Proof.Tests
end

section
/-! PROOFS. What a channel change leads to: the channel it writes, the combiners it has evaluated, the channels of those combiners, and everything that it leaves alone (R6 to R9, R47 to R49). -/

namespace Sys2Proof.Machine

/-! ### The channel that a source is bound to -/

theorem mem_allChannels (c : ChannelId) : c ∈ allChannels := List.mem_finRange c

theorem mem_allCombiners (m : CombinerId) : m ∈ allCombiners := List.mem_finRange m

theorem source_of_boundTo {s : State} {src : ChannelSource} {c : ChannelId} (h : s.boundTo src = some c) :
    (s.chan c).source = src := by
  simpa using List.find?_some h

theorem boundTo_eq_none {s : State} {src : ChannelSource} : s.boundTo src = none ↔ ∀ c, (s.chan c).source ≠ src := by
  simp [State.boundTo, List.find?_eq_none, mem_allChannels]

theorem boundTo_isSome {s : State} {src : ChannelSource} : (s.boundTo src).isSome = true ↔ ∃ c, (s.chan c).source = src := by
  simp [State.boundTo, List.find?_isSome, mem_allChannels]

/-- R11: an exclusive source is bound to the one channel that names it. -/
theorem boundTo_eq_some {s : State} {src : ChannelSource} {c : ChannelId} (hs : s.oneChannelPerSource)
    (he : src.exclusive = true) (hc : (s.chan c).source = src) : s.boundTo src = some c := by
  cases hb : s.boundTo src with
  | none => exact absurd hc (boundTo_eq_none.mp hb c)
  | some d =>
    have hd := source_of_boundTo hb
    rw [hs d c (hd ▸ he) (hd.trans hc.symm)]

/-! ### Evaluations -/

theorem hasMember_iff (c : ChannelId) (cb : Combiner) : cb.hasMember c = true ↔ ∃ mb ∈ cb.members, mb.channel = c := by
  simp [Combiner.hasMember]

/-- R44: an evaluation reads the states and values of the members, and nothing else of the channel table. -/
theorem evaluate_congr {f g : ChannelId → Channel} {cb : Combiner}
    (h : ∀ c, cb.hasMember c = true → (f c).state = (g c).state ∧ (f c).value = (g c).value) :
    cb.evaluate f = cb.evaluate g := by
  have member : ∀ mb ∈ cb.members, (f mb.channel).state = (g mb.channel).state ∧ (f mb.channel).value = (g mb.channel).value :=
    fun mb hmb => h _ ((hasMember_iff _ _).mpr ⟨mb, hmb, rfl⟩)
  have inputs : cb.inputsAt1 f = cb.inputsAt1 g :=
    List.countP_congr fun mb hmb => by simp [Member.input, member mb hmb]
  have invalid : cb.notValid f = cb.notValid g :=
    List.countP_congr fun mb hmb => by simp [member mb hmb]
  simp [Combiner.evaluate, Combiner.result, Combiner.resultValid, inputs, invalid]

/-- An evaluation writes the output alone, so that a later one forgets it. -/
theorem evaluate_evaluate (f g : ChannelId → Channel) (cb : Combiner) : (cb.evaluate f).evaluate g = cb.evaluate g := rfl

@[simp] theorem evaluateCombiners_comb (c : ChannelId) (s : State) (m : CombinerId) :
    (s.evaluateCombiners c).comb m = (s.comb m).takeOffer s.chan c := by
  simp [State.evaluateCombiners, State.comb]

@[simp] theorem evaluateCombiners_chan (c d : ChannelId) (s : State) : (s.evaluateCombiners c).chan d = s.chan d := rfl

/-! ### What a change leaves alone -/

/-- R4, R6, R9: what a channel change, and each part of it, leaves alone: of the channels, their source and watch; of the lines,
everything but the drive; of the links, everything but the pending change list; of the combiners, everything but the output;
and what `State.changedFrom` leaves. -/
structure State.Carries (s t : State) : Prop where
  channel : ∀ d, (t.chan d).source = (s.chan d).source ∧ (t.chan d).watch = (s.chan d).watch
  line : ∀ n, t.lineAt n = { s.lineAt n with drive := (t.lineAt n).drive }
  link : ∀ k, t.linkAt k = { s.linkAt k with changes := (t.linkAt k).changes }
  comb : ∀ m, t.comb m = { s.comb m with outValue := (t.comb m).outValue, outValid := (t.comb m).outValid }
  rest : s.changedFrom t

theorem carries_refl (s : State) : s.Carries s :=
  ⟨fun _ => ⟨rfl, rfl⟩, fun _ => rfl, fun _ => rfl, fun _ => rfl, changedFrom_refl s⟩

theorem carries_trans {s t u : State} (h : s.Carries t) (h' : t.Carries u) : s.Carries u where
  channel d := ⟨(h'.channel d).1.trans (h.channel d).1, (h'.channel d).2.trans (h.channel d).2⟩
  line n := by rw [h'.line n, h.line n]
  link k := by rw [h'.link k, h.link k]
  comb m := by rw [h'.comb m, h.comb m]
  rest := changedFrom_trans h.rest h'.rest

theorem writeChan_carries (c : ChannelId) (st : Validity) (v : Bool) (inc : Nat) (s : State) :
    s.Carries (s.writeChan c st v inc) where
  channel d := by rw [writeChan_chan]; split <;> simp_all
  line _ := rfl
  link _ := rfl
  comb _ := rfl
  rest := writeChan_changed c st v inc s

theorem offer_carries (c : ChannelId) (inc : Nat) (s : State) : s.Carries (s.offer c inc) where
  channel d := by simp
  line n := by rw [offer_lineAt, Line.takeOffer]; split <;> rfl
  link k := by rw [offer_linkAt, Link.takeOffer]; split <;> rfl
  comb m := by rw [offer_comb]
  rest := offer_changed c inc s

theorem evaluateCombiners_carries (c : ChannelId) (s : State) : s.Carries (s.evaluateCombiners c) where
  channel _ := ⟨rfl, rfl⟩
  line _ := rfl
  link _ := rfl
  comb m := by rw [evaluateCombiners_comb, Combiner.takeOffer]; split <;> rfl
  rest := ⟨s.channels, s.lines, _, s.links, s.events.flags, s.events.notices, s.events.lost, s.events.alertn, rfl⟩

theorem changeConsequent_carries (c : ChannelId) (st : Validity) (v : Bool) (inc : Nat) (s : State) :
    s.Carries (s.changeConsequent c st v inc) := by
  unfold State.changeConsequent
  simp only
  split
  · exact carries_trans (writeChan_carries c st v inc s) (offer_carries c inc _)
  · exact writeChan_carries c st v inc s

theorem giveCombinerUpdate_carries (m : CombinerId) (before : Combiner) (s : State) :
    s.Carries (s.giveCombinerUpdate m before) := by
  unfold State.giveCombinerUpdate
  simp only
  split
  · exact carries_refl s
  · split
    · exact carries_refl s
    · exact changeConsequent_carries _ _ _ _ s

theorem foldl_carries {α : Type} (f : State → α → State) (hf : ∀ (s : State) (a : α), s.Carries (f s a)) (as : List α)
    (s : State) : s.Carries (as.foldl f s) := by
  induction as generalizing s with
  | nil => exact carries_refl s
  | cons a as ih => exact carries_trans (hf s a) (ih _)

theorem offerCombiners_carries (c : ChannelId) (s : State) : s.Carries (s.offerCombiners c) :=
  carries_trans (evaluateCombiners_carries c s)
    (foldl_carries _ (fun t m => giveCombinerUpdate_carries m (s.comb m) t) _ _)

theorem change_carries (c : ChannelId) (st : Validity) (v : Bool) (inc : Nat) (s : State) :
    s.Carries (s.change c st v inc) := by
  unfold State.change
  simp only
  split
  · exact carries_trans (carries_trans (writeChan_carries c st v inc s) (offer_carries c inc _)) (offerCombiners_carries c _)
  · exact writeChan_carries c st v inc s

theorem update_carries (src : ChannelSource) (c : ChannelId) (st : Validity) (v : Bool) (inc : Nat) (s : State) :
    s.Carries (s.update src c st v inc) := by
  unfold State.update
  split
  · exact change_carries c st v inc s
  · exact carries_refl s

theorem oneChannelPerSource_of_carries {s t : State} (h : s.Carries t) (hs : s.oneChannelPerSource) : t.oneChannelPerSource := by
  intro c d
  rw [(h.channel c).1, (h.channel d).1]
  exact hs c d

/-! ### The channels of the combiners -/

/-- R6: a channel record that takes an update. -/
def Channel.updated (st : Validity) (v : Bool) (inc : Nat) (ch : Channel) : Channel :=
  { ch with state := st, value := v, edges := ch.edges + BitVec.ofNat 16 inc }

theorem writeChan_chan_updated (c d : ChannelId) (st : Validity) (v : Bool) (inc : Nat) (s : State) :
    (s.writeChan c st v inc).chan d = if d = c then (s.chan c).updated st v inc else s.chan d :=
  writeChan_chan c d st v inc s

theorem changeConsequent_chan (c d : ChannelId) (st : Validity) (v : Bool) (inc : Nat) (s : State) :
    (s.changeConsequent c st v inc).chan d = if d = c then (s.chan c).updated st v inc else s.chan d := by
  unfold State.changeConsequent
  simp only
  split <;> simp only [offer_chan, writeChan_chan_updated]

theorem changeConsequent_comb (c : ChannelId) (st : Validity) (v : Bool) (inc : Nat) (s : State) (m : CombinerId) :
    (s.changeConsequent c st v inc).comb m = s.comb m := by
  unfold State.changeConsequent
  simp only
  split
  · rw [offer_comb]; rfl
  · rfl

/-- R48: what a combiner's channel becomes when the combiner's record has become `after` from `before`. -/
def Channel.follow (before after : Combiner) (ch : Channel) : Channel :=
  if after.outValue = before.outValue ∧ after.outState = before.outState then ch
  else ch.updated after.outState after.outValue (if after.outValue = before.outValue then 0 else 1)

@[simp] theorem follow_same (cb : Combiner) (ch : Channel) : ch.follow cb cb = ch := by simp [Channel.follow]

theorem follow_state_value {before after : Combiner} {ch : Channel}
    (h : ch.state = before.outState ∧ ch.value = before.outValue) :
    (ch.follow before after).state = after.outState ∧ (ch.follow before after).value = after.outValue := by
  unfold Channel.follow
  split
  · rename_i same
    rw [h.1, h.2, same.1, same.2]
    exact ⟨rfl, rfl⟩
  · exact ⟨rfl, rfl⟩

@[simp] theorem giveCombinerUpdate_comb (m : CombinerId) (before : Combiner) (s : State) (m' : CombinerId) :
    (s.giveCombinerUpdate m before).comb m' = s.comb m' := by
  unfold State.giveCombinerUpdate
  simp only
  split
  · rfl
  · split
    · rfl
    · rw [changeConsequent_comb]

/-- R48: the update that a combiner gives reaches the channel it sources, and no other. -/
theorem giveCombinerUpdate_chan {s : State} (hs : s.oneChannelPerSource) (m : CombinerId) (before : Combiner) (d : ChannelId) :
    (s.giveCombinerUpdate m before).chan d =
      if (s.chan d).source = .combiner m then (s.chan d).follow before (s.comb m) else s.chan d := by
  unfold State.giveCombinerUpdate Channel.follow
  simp only
  by_cases same : (s.comb m).outValue = before.outValue ∧ (s.comb m).outState = before.outState
  · simp [same]
  rw [if_neg same, if_neg same]
  split
  next unbound => rw [if_neg (boundTo_eq_none.mp unbound d)]
  next c bound =>
    have hc := source_of_boundTo bound
    rw [changeConsequent_chan]
    by_cases hd : d = c
    · rw [if_pos hd, hd, if_pos hc]
    · rw [if_neg hd, if_neg fun h => hd (hs d c (by rw [h]; rfl) (h.trans hc.symm))]

theorem giveUpdates_comb (ms : List CombinerId) (before : CombinerId → Combiner) (s : State) (m : CombinerId) :
    (ms.foldl (fun t m => t.giveCombinerUpdate m (before m)) s).comb m = s.comb m := by
  induction ms generalizing s with
  | nil => rfl
  | cons m' ms ih => rw [List.foldl_cons, ih, giveCombinerUpdate_comb]

/-- A channel with no COMBINER source takes no consequent update. -/
theorem giveUpdates_chan_other {s : State} (hs : s.oneChannelPerSource) (ms : List CombinerId) (before : CombinerId → Combiner)
    (d : ChannelId) (hd : ∀ m, (s.chan d).source ≠ .combiner m) :
    (ms.foldl (fun t m => t.giveCombinerUpdate m (before m)) s).chan d = s.chan d := by
  induction ms generalizing s with
  | nil => rfl
  | cons m ms ih =>
    have step : (s.giveCombinerUpdate m (before m)).chan d = s.chan d := by
      rw [giveCombinerUpdate_chan hs, if_neg (hd m)]
    rw [List.foldl_cons, ih (oneChannelPerSource_of_carries (giveCombinerUpdate_carries m _ s) hs) (by rwa [step]), step]

/-- The channel that combiner `m` sources follows that combiner when its turn comes, and stays before and after. -/
theorem giveUpdates_chan {s : State} (hs : s.oneChannelPerSource) (ms : List CombinerId) (nodup : ms.Nodup)
    (before : CombinerId → Combiner) (d : ChannelId) (m : CombinerId) (hd : (s.chan d).source = .combiner m) :
    (ms.foldl (fun t m => t.giveCombinerUpdate m (before m)) s).chan d =
      if m ∈ ms then (s.chan d).follow (before m) (s.comb m) else s.chan d := by
  induction ms generalizing s with
  | nil => rfl
  | cons m' ms ih =>
    have hs' := oneChannelPerSource_of_carries (giveCombinerUpdate_carries m' (before m') s) hs
    have source := ((giveCombinerUpdate_carries m' (before m') s).channel d).1.trans hd
    obtain ⟨fresh, nodup⟩ := List.nodup_cons.mp nodup
    rw [List.foldl_cons, ih hs' nodup source, giveCombinerUpdate_chan hs, giveCombinerUpdate_comb, hd]
    by_cases h : m' = m
    · subst h
      simp [fresh]
    · simp [Ne.symm h]

/-! ### The whole change -/

theorem changes_iff (st : Validity) (v : Bool) (inc : Nat) (ch : Channel) :
    ch.changes st v inc = true ↔ ch.state ≠ st ∨ ch.value ≠ v ∨ inc ≠ 0 := by
  simp [Channel.changes, Nat.pos_iff_ne_zero, or_assoc]

theorem offerCombiners_comb (c : ChannelId) (s : State) (m : CombinerId) :
    (s.offerCombiners c).comb m = (s.comb m).takeOffer s.chan c := by
  rw [State.offerCombiners, giveUpdates_comb, evaluateCombiners_comb]

/-- R47: the combiners after a channel change. -/
theorem change_comb {s : State} {c : ChannelId} {st : Validity} {v : Bool} {inc : Nat}
    (h : (s.chan c).changes st v inc = true) (m : CombinerId) :
    (s.change c st v inc).comb m = (s.comb m).takeOffer (s.writeChan c st v inc).chan c := by
  have chan : ((s.writeChan c st v inc).offer c inc).chan = (s.writeChan c st v inc).chan := funext fun d => by simp
  simp only [State.change, h, if_true, offerCombiners_comb, offer_comb, chan]
  rfl

/-- R9, R49: a channel with no COMBINER source after a channel change. -/
theorem change_chan_other {s : State} (hs : s.oneChannelPerSource) {c : ChannelId} {st : Validity} {v : Bool} {inc : Nat}
    (d : ChannelId) (hd : ∀ m, (s.chan d).source ≠ .combiner m) :
    (s.change c st v inc).chan d = (s.writeChan c st v inc).chan d := by
  unfold State.change
  simp only
  split
  · have carries := carries_trans (carries_trans (writeChan_carries c st v inc s) (offer_carries c inc _))
      (evaluateCombiners_carries c _)
    rw [State.offerCombiners, giveUpdates_chan_other (oneChannelPerSource_of_carries carries hs) _ _ _
      (by rw [(carries.channel d).1]; exact hd), evaluateCombiners_chan, offer_chan]
  · rfl

/-- R48, R49: the channel that a combiner sources after a channel change: it follows the combiner's evaluation. -/
theorem change_chan_combiner {s : State} (hs : s.oneChannelPerSource) {c : ChannelId} {st : Validity} {v : Bool} {inc : Nat}
    (h : (s.chan c).changes st v inc = true) (d : ChannelId) (m : CombinerId) (hd : (s.chan d).source = .combiner m) :
    (s.change c st v inc).chan d =
      ((s.writeChan c st v inc).chan d).follow (s.comb m) ((s.change c st v inc).comb m) := by
  have carries := carries_trans (carries_trans (writeChan_carries c st v inc s) (offer_carries c inc _))
    (evaluateCombiners_carries c _)
  have given := giveUpdates_chan (oneChannelPerSource_of_carries carries hs) allCombiners (List.nodup_finRange _)
    ((s.writeChan c st v inc).offer c inc).comb d m (by rw [(carries.channel d).1]; exact hd)
  rw [if_pos (mem_allCombiners m), evaluateCombiners_chan, offer_chan, offer_comb] at given
  simp only [State.change, h, if_true, offerCombiners_comb]
  rw [State.offerCombiners, given, evaluateCombiners_comb]
  rfl

end Sys2Proof.Machine
end

section
/-! PROOFS. The laws of the channel table as one predicate per channel, and what a channel change does to them. -/

namespace Sys2Proof.Machine

/-! ### One law for each channel -/

/-- What a source says of the state and value of its channel: R2 of NONE, R30 and R36 of a line, R21 of a link, R48 of a combiner,
R22 of a link-status object. A host channel holds what the host gives it. -/
def State.tells (s : State) (st : Validity) (v : Bool) : ChannelSource → Prop
  | .none => st = .unknown
  | .line n => (s.lineAt n).mode = .input ∧ st = .valid ∧ v = (s.lineAt n).value
  | .host => True
  | .link k => st = .valid → (s.linkAt k).state = .up
  | .combiner m => st = (s.comb m).outState ∧ v = (s.comb m).outValue
  | .linkStat k => st = .valid ∧ v = decide ((s.linkAt k).state = .up)

/-- Channel `c` holds what its source says. -/
def State.told (s : State) (c : ChannelId) : Prop := s.tells (s.chan c).state (s.chan c).value (s.chan c).source

/-- The laws of the channel table, in a moment in which the channels of `X` wait for the update that their source owes them. -/
structure State.LawExcept (X : ChannelId → Prop) (s : State) : Prop where
  sources : s.oneChannelPerSource
  echo : s.noEcho
  nesting : s.noNesting
  current : s.combinersCurrent
  told : ∀ c, ¬X c → s.told c

/-- The laws of the channel table hold where every channel holds what its source says. -/
theorem channelLaw_iff (s : State) : s.ChannelLaw ↔ s.LawExcept fun _ => False := by
  constructor
  · intro h
    refine ⟨h.sources, h.echo, h.nesting, h.current, fun c _ => ?_⟩
    unfold State.told
    cases src : (s.chan c).source with
    | none => exact h.sourceless c src
    | line n => exact h.lines c n src
    | host => trivial
    | link k => exact h.imports c k src
    | combiner m => exact h.combiners c m src
    | linkStat k => exact h.linkStatus c k src
  · intro h
    have told {c src} (hc : (s.chan c).source = src) : s.tells (s.chan c).state (s.chan c).value src := hc ▸ h.told c id
    exact {
      sources := h.sources
      sourceless := fun _ hc => told hc
      echo := h.echo
      nesting := h.nesting
      lines := fun _ _ hc => told hc
      combiners := fun _ _ hc => told hc
      current := h.current
      linkStatus := fun _ _ hc => told hc
      imports := fun _ _ hc => told hc }

theorem State.LawExcept.weaken {X Y : ChannelId → Prop} {s : State} (h : s.LawExcept X) (hXY : ∀ c, X c → Y c) : s.LawExcept Y :=
  ⟨h.sources, h.echo, h.nesting, h.current, fun c hc => h.told c fun hx => hc (hXY c hx)⟩

/-! ### What the laws read -/

/-- What the laws read of a channel. -/
def Channel.SameHolding (ch ch' : Channel) : Prop := ch'.source = ch.source ∧ ch'.state = ch.state ∧ ch'.value = ch.value

/-- What the laws read of a line. -/
def Line.SameReading (l l' : Line) : Prop := l'.mode = l.mode ∧ l'.value = l.value

/-- What the laws read of a link. -/
def Link.SameSession (l l' : Link) : Prop := l'.state = l.state ∧ l'.exported = l.exported

/-- The laws read of a state its combiners, and of its channels, lines and links only the parts named above. -/
structure State.SameTable (s t : State) : Prop where
  channels : ∀ c, (s.chan c).SameHolding (t.chan c)
  combs : ∀ m, t.comb m = s.comb m
  lines : ∀ n, (s.lineAt n).SameReading (t.lineAt n)
  links : ∀ k, (s.linkAt k).SameSession (t.linkAt k)

theorem sameHolding_refl (ch : Channel) : ch.SameHolding ch := ⟨rfl, rfl, rfl⟩

theorem sameReading_refl (l : Line) : l.SameReading l := ⟨rfl, rfl⟩

theorem sameSession_refl (l : Link) : l.SameSession l := ⟨rfl, rfl⟩

theorem sameSession_trans {l l' l'' : Link} (h : l.SameSession l') (h' : l'.SameSession l'') : l.SameSession l'' :=
  ⟨h'.1.trans h.1, h'.2.trans h.2⟩

theorem sameTable_refl (s : State) : s.SameTable s :=
  ⟨fun _ => sameHolding_refl _, fun _ => rfl, fun _ => sameReading_refl _, fun _ => sameSession_refl _⟩

theorem sameTable_trans {s t u : State} (h : s.SameTable t) (h' : t.SameTable u) : s.SameTable u where
  channels c :=
    ⟨(h'.channels c).1.trans (h.channels c).1, (h'.channels c).2.1.trans (h.channels c).2.1,
      (h'.channels c).2.2.trans (h.channels c).2.2⟩
  combs m := (h'.combs m).trans (h.combs m)
  lines n := ⟨(h'.lines n).1.trans (h.lines n).1, (h'.lines n).2.trans (h.lines n).2⟩
  links k := sameSession_trans (h.links k) (h'.links k)

theorem tells_congr {s t : State} {src : ChannelSource} (st : Validity) (v : Bool)
    (lines : ∀ n, src = .line n → (s.lineAt n).SameReading (t.lineAt n))
    (links : ∀ k, src = .link k ∨ src = .linkStat k → (t.linkAt k).state = (s.linkAt k).state)
    (combs : ∀ m, src = .combiner m → t.comb m = s.comb m) : t.tells st v src ↔ s.tells st v src := by
  cases src with
  | none => exact Iff.rfl
  | line n => simp only [State.tells, (lines n rfl).1, (lines n rfl).2]
  | host => exact Iff.rfl
  | link k => simp only [State.tells, links k (.inl rfl)]
  | combiner m => simp only [State.tells, combs m rfl]
  | linkStat k => simp only [State.tells, links k (.inr rfl)]

/-- Where channels, combiners and the links' channel sets stay, the laws hold up to what the sources then say. -/
theorem State.LawExcept.retold {X Y : ChannelId → Prop} {s t : State} (h : s.LawExcept X)
    (channels : ∀ c, (s.chan c).SameHolding (t.chan c)) (combs : ∀ m, t.comb m = s.comb m)
    (exported : ∀ k, (t.linkAt k).exported = (s.linkAt k).exported)
    (told : ∀ c, ¬Y c → t.tells (s.chan c).state (s.chan c).value (s.chan c).source) : t.LawExcept Y where
  sources c d := by
    rw [(channels c).1, (channels d).1]
    exact h.sources c d
  echo c k := by
    rw [(channels c).1, Link.exports, exported k]
    exact h.echo c k
  nesting c m := by
    rw [(channels c).1, combs m]
    exact h.nesting c m
  current m := by
    rw [combs m]
    exact (evaluate_congr fun c _ => (channels c).2).trans (h.current m)
  told c hc := by
    rw [State.told, (channels c).1, (channels c).2.1, (channels c).2.2]
    exact told c hc

theorem State.LawExcept.of_sameTable {X : ChannelId → Prop} {s t : State} (h : s.LawExcept X) (same : s.SameTable t) :
    t.LawExcept X :=
  h.retold same.channels same.combs (fun k => (same.links k).2) fun c hc =>
    (tells_congr _ _ (fun n _ => same.lines n) (fun k _ => (same.links k).1) fun m _ => same.combs m).mpr (h.told c hc)

theorem State.ChannelLaw.of_sameTable {s t : State} (h : s.ChannelLaw) (same : s.SameTable t) : t.ChannelLaw :=
  (channelLaw_iff t).mpr (((channelLaw_iff s).mp h).of_sameTable same)

/-! ### A channel change -/

theorem hasMember_of_carries {s t : State} (h : s.Carries t) (m : CombinerId) (c : ChannelId) :
    (t.comb m).hasMember c = (s.comb m).hasMember c := by rw [h.comb m]; rfl

/-- What a line, a link or a link-status object says of its channel is the same after a change. -/
theorem tells_of_carries {s t : State} (h : s.Carries t) {src : ChannelSource} (hsrc : ∀ m, src ≠ .combiner m) (st : Validity)
    (v : Bool) : t.tells st v src ↔ s.tells st v src :=
  tells_congr st v (fun n _ => by rw [h.line n]; exact ⟨rfl, rfl⟩) (fun k _ => by rw [h.link k]) fun m hm => absurd hm (hsrc m)

/-- No member of a combiner has a COMBINER source (R12). -/
theorem member_source {s : State} (h : s.noNesting) {c : ChannelId} {m : CombinerId} (hc : (s.comb m).hasMember c = true)
    (m' : CombinerId) : (s.chan c).source ≠ .combiner m' := by
  intro src
  have := h c m hc
  rw [src] at this
  cases this

/-- R47, R54: after a channel change every combiner holds the output of an evaluation of the records as they then are. -/
theorem change_current {s : State} (sources : s.oneChannelPerSource) (nesting : s.noNesting) (current : s.combinersCurrent)
    (c : ChannelId) (st : Validity) (v : Bool) (inc : Nat) : (s.change c st v inc).combinersCurrent := by
  intro m
  have member (d : ChannelId) (hd : (s.comb m).hasMember d = true) :
      (s.change c st v inc).chan d = (s.writeChan c st v inc).chan d :=
    change_chan_other sources d (member_source nesting hd)
  by_cases moved : (s.chan c).changes st v inc = true
  · rw [change_comb moved, Combiner.takeOffer]
    split
    · rw [evaluate_evaluate]
      exact evaluate_congr fun d hd => by rw [member d hd]; exact ⟨rfl, rfl⟩
    · rename_i hc
      calc (s.comb m).evaluate (s.change c st v inc).chan
        _ = (s.comb m).evaluate s.chan := evaluate_congr fun d hd => by
          have other : d ≠ c := fun e => hc (e ▸ hd)
          rw [member d hd, writeChan_chan_updated, if_neg other]
          exact ⟨rfl, rfl⟩
        _ = s.comb m := current m
  · have same : (s.chan c).state = st ∧ (s.chan c).value = v := by
      rw [changes_iff] at moved
      push Not at moved
      exact ⟨moved.1, moved.2.1⟩
    have comb : (s.change c st v inc).comb m = s.comb m := by simp only [State.change, moved]; rfl
    rw [comb]
    calc (s.comb m).evaluate (s.change c st v inc).chan
      _ = (s.comb m).evaluate s.chan := evaluate_congr fun d hd => by
        rw [member d hd, writeChan_chan_updated]
        split
        · rename_i h
          subst h
          exact ⟨same.1.symm, same.2.symm⟩
        · exact ⟨rfl, rfl⟩
      _ = s.comb m := current m

/-- The updated channel, where it has a COMBINER source, is no member of a combiner, so that no output moves. -/
theorem change_comb_of_combiner {s : State} (nesting : s.noNesting) {c : ChannelId} {m : CombinerId}
    (hc : (s.chan c).source = .combiner m) (st : Validity) (v : Bool) (inc : Nat) (m' : CombinerId) :
    (s.change c st v inc).comb m' = s.comb m' := by
  by_cases moved : (s.chan c).changes st v inc = true
  · rw [change_comb moved, Combiner.takeOffer, if_neg fun h => member_source nesting h m hc]
  · simp only [State.change, moved]; rfl

/-- A channel change keeps the laws, and the changed channel then holds what its source says, if the update says so. -/
theorem State.LawExcept.change {X : ChannelId → Prop} {s : State} (h : s.LawExcept X) {c : ChannelId} {st : Validity} {v : Bool}
    (hc : s.tells st v (s.chan c).source) (inc : Nat) : (s.change c st v inc).LawExcept fun d => X d ∧ d ≠ c := by
  have carries := change_carries c st v inc s
  refine {
    sources := oneChannelPerSource_of_carries carries h.sources
    echo := fun d k hd => ?_
    nesting := fun d m hd => ?_
    current := change_current h.sources h.nesting h.current c st v inc
    told := fun d hd => ?_ }
  · rw [(carries.channel d).1] at hd
    rw [carries.link k]
    exact h.echo d k hd
  · rw [hasMember_of_carries carries] at hd
    rw [(carries.channel d).1]
    exact h.nesting d m hd
  have written : s.tells ((s.writeChan c st v inc).chan d).state ((s.writeChan c st v inc).chan d).value (s.chan d).source := by
    rw [writeChan_chan_updated]
    split
    · rename_i same
      subst same
      exact hc
    · rename_i other
      exact h.told d fun hx => hd ⟨hx, other⟩
  unfold State.told
  rw [(carries.channel d).1]
  by_cases src : ∃ m, (s.chan d).source = .combiner m
  · obtain ⟨m, src⟩ := src
    rw [src] at written ⊢
    by_cases moved : (s.chan c).changes st v inc = true
    · rw [change_chan_combiner h.sources moved d m src]
      exact follow_state_value written
    · simp only [State.change, moved]
      exact written
  · rw [not_exists] at src
    rw [change_chan_other h.sources d src]
    exact (tells_of_carries carries src _ _).mpr written

theorem State.LawExcept.update {X : ChannelId → Prop} {s : State} (h : s.LawExcept X) {src : ChannelSource} {st : Validity} {v : Bool}
    (hsrc : s.tells st v src) (c : ChannelId) (inc : Nat) :
    (s.update src c st v inc).LawExcept fun d => X d ∧ ¬(d = c ∧ (s.chan c).source = src) := by
  unfold State.update
  split
  · rename_i hc
    exact (h.change (by rwa [hc]) inc).weaken fun d hd => ⟨hd.1, fun e => hd.2 e.1⟩
  · rename_i hc
    exact h.weaken fun d hd => ⟨hd, fun e => hc e.2⟩

/-- An update from an exclusive source pays what that source owes its channel. -/
theorem State.LawExcept.updateBound {s : State} {src : ChannelSource} (h : s.LawExcept fun d => (s.chan d).source = src)
    (he : src.exclusive = true) {st : Validity} {v : Bool} (hsrc : ∀ c, (s.chan c).source = src → s.tells st v src)
    (inc : Bool → Nat) : (s.updateBound src st v inc).ChannelLaw := by
  rw [channelLaw_iff]
  unfold State.updateBound
  split
  · rename_i unbound
    exact h.weaken fun d hd => boundTo_eq_none.mp unbound d hd
  · rename_i c bound
    have hc := source_of_boundTo bound
    exact (h.update (hsrc c hc) c _).weaken fun d hd => hd.2 ⟨h.sources d c (by rw [hd.1]; exact he) (hd.1.trans hc.symm), hc⟩

end Sys2Proof.Machine
end

section
/-! PROOFS. What leaves the channel table's laws as they are: the arbiters, the event unit, the executor, and the parts of a link that no law reads. -/

namespace Sys2Proof.Machine

/-! ### Blocks that no law reads -/

theorem sameTable_of_eq {s t : State} (channels : t.channels = s.channels) (lines : t.lines = s.lines)
    (combiners : t.combiners = s.combiners) (links : t.links = s.links) : s.SameTable t where
  channels c := by rw [show t.chan c = s.chan c from congrArg (·.get c) channels]; exact sameHolding_refl _
  combs m := congrArg (·.get m) combiners
  lines n := by rw [show t.lineAt n = s.lineAt n from congrArg (·.get n) lines]; exact sameReading_refl _
  links k := by rw [show t.linkAt k = s.linkAt k from congrArg (·.get k) links]; exact sameSession_refl _

theorem sameTable_modRemote (f : RemoteTable → RemoteTable) (s : State) : s.SameTable (s.modRemote f) :=
  sameTable_of_eq rfl rfl rfl rfl

theorem sameTable_modHost (f : HostPort → HostPort) (s : State) : s.SameTable (s.modHost f) :=
  sameTable_of_eq rfl rfl rfl rfl

theorem sameTable_modEvents (f : EventUnit → EventUnit) (s : State) : s.SameTable (s.modEvents f) :=
  sameTable_of_eq rfl rfl rfl rfl

theorem sameTable_modLink {k : LinkId} {f : Link → Link} {s : State} (h : (s.linkAt k).SameSession (f (s.linkAt k))) :
    s.SameTable (s.modLink k f) where
  channels _ := sameHolding_refl _
  combs _ := rfl
  lines _ := sameReading_refl _
  links k' := by
    rw [State.linkAt_modLink]
    split
    · rename_i e
      rw [e]
      exact h
    · exact sameSession_refl _

theorem sameTable_setLine {n : LineId} {x : Line} {s : State} (h : (s.lineAt n).SameReading x) : s.SameTable (s.setLine n x) where
  channels _ := sameHolding_refl _
  combs _ := rfl
  lines n' := by
    rw [State.lineAt_setLine]
    split
    · rename_i e
      rw [e]
      exact h
    · exact sameReading_refl _
  links _ := sameSession_refl _

theorem sameTable_setChan {c : ChannelId} {x : Channel} {s : State} (h : (s.chan c).SameHolding x) : s.SameTable (s.setChan c x) where
  channels c' := by
    rw [State.chan_setChan]
    split
    · rename_i e
      rw [e]
      exact h
    · exact sameHolding_refl _
  combs _ := rfl
  lines _ := sameReading_refl _
  links _ := sameSession_refl _

theorem sameTable_raise (f : Flag) (d : Byte) (s : State) : s.SameTable (s.raise f d) := by
  obtain ⟨_, _, _, _, h⟩ := raise_only f d s
  rw [h]
  exact sameTable_of_eq rfl rfl rfl rfl

theorem sameTable_hostByte (b : Byte) (s : State) : s.SameTable (s.hostByte b) := by
  obtain ⟨_, _, _, _, _, h⟩ := hostByte_only b s
  rw [h]
  exact sameTable_of_eq rfl rfl rfl rfl

theorem sameTable_framingError (s : State) : s.SameTable s.framingError := by
  obtain ⟨_, _, _, _, _, h⟩ := framingError_only s
  rw [h]
  exact sameTable_of_eq rfl rfl rfl rfl

theorem sameTable_takeGrant (g : Grant) (s : State) : s.SameTable (s.takeGrant g) := by
  obtain ⟨_, h⟩ := takeGrant_only g s
  rw [h]
  exact sameTable_of_eq rfl rfl rfl rfl

theorem sameTable_answer (g : Grant) (status : Status) (data : List Byte) (s : State) :
    s.SameTable (s.answer g status data) := by
  unfold State.answer
  split
  · exact sameTable_modHost _ s
  · exact sameTable_modLink ⟨rfl, rfl⟩

theorem sameTable_passTime (s : State) : s.SameTable s.passTime where
  channels _ := sameHolding_refl _
  combs _ := rfl
  lines n := by simp [State.passTime, State.lineAt, Line.pass, Line.SameReading, Line.value]
  links k := by simp [State.passTime, State.linkAt, Link.pass, Link.SameSession]

theorem sameTable_stray (k : LinkId) (s : State) : s.SameTable (s.stray k) :=
  sameTable_trans (sameTable_modLink ⟨rfl, rfl⟩) (sameTable_raise _ _ _)

/-! ### Frames that begin, and the ack field -/

theorem sameSession_begin (kind seq : Byte) (body : List Byte) (l : Link) : l.SameSession (l.begin kind seq body) := by
  unfold Link.begin
  simp only
  split <;> exact ⟨rfl, rfl⟩

theorem sameSession_sendHello (node : Byte) (l : Link) : l.SameSession (l.sendHello node) :=
  sameSession_begin _ _ _ { l with helloOwed := false }

theorem sameSession_sendAck (l : Link) : l.SameSession l.sendAck := sameSession_begin _ _ _ l

theorem sameSession_sendData (kind : DataKind) (body : List Byte) (l : Link) : l.SameSession (l.sendData kind body) := by
  have appended : l.SameSession (l.appendRecord kind body) := by
    unfold Link.appendRecord
    simp only
    split <;> exact ⟨rfl, rfl⟩
  exact sameSession_trans appended (sameSession_begin _ _ _ _)

theorem sameSession_sendChanges (l : Link) : l.SameSession l.sendChanges :=
  sameSession_sendData _ _ { l with changes := l.changes.drop Config.changeEntries }

theorem sameSession_resend (p : Byte) (l : Link) : l.SameSession (l.resend p) := by
  unfold Link.resend
  split
  · exact sameSession_begin _ _ _ { l with resendPoint := l.afterResend p }
  · exact ⟨rfl, rfl⟩

theorem sameSession_takeAck (a : Byte) (l : Link) : l.SameSession (l.takeAck a) := by
  have removed (n : Nat) (o : Byte) (l : Link) : l.SameSession (l.afterRemoval n o) := by
    unfold Link.afterRemoval
    split <;> exact ⟨rfl, rfl⟩
  unfold Link.takeAck
  simp only
  split
  · split
    · exact sameSession_refl l
    · exact removed _ _ { l with queue := _ }
  · exact ⟨rfl, rfl⟩

/-! ### The arbiters -/

theorem sameTable_sendNewData {s t : State} {k : LinkId} (h : s.sendNewData? k = some t) : s.SameTable t := by
  unfold State.sendNewData? at h
  simp only at h
  split at h
  · cases h
  · split at h
    · cases h
      exact sameTable_modLink (sameSession_sendData _ _ { s.linkAt k with slot := .empty })
    · split at h
      · cases h
        exact sameTable_trans (sameTable_modRemote _ s) (sameTable_modLink (sameSession_sendData _ _ _))
      · split at h <;> cases h
        exact sameTable_modLink (sameSession_sendChanges _)

theorem sameTable_linkArbiter (k : LinkId) (s : State) : s.SameTable (s.linkArbiter k) := by
  unfold State.linkArbiter
  simp only
  split
  · exact sameTable_refl s
  · split
    · exact sameTable_refl s
    · exact sameTable_refl s
    · split
      · exact sameTable_modLink (sameSession_sendHello _ _)
      · exact sameTable_refl s
    · split
      · exact sameTable_modLink (sameSession_sendHello _ _)
      · split
        · exact sameTable_modLink (sameSession_resend _ _)
        · split
          · exact sameTable_sendNewData ‹_›
          · split
            · exact sameTable_modLink (sameSession_sendAck _)
            · exact sameTable_refl s

theorem sameTable_settle (s : State) : s.SameTable s.settle := by
  have links (ks : List LinkId) (t : State) : t.SameTable (ks.foldl (fun t k => t.linkArbiter k) t) := by
    induction ks generalizing t with
    | nil => exact sameTable_refl t
    | cons k ks ih => exact sameTable_trans (sameTable_linkArbiter k t) (ih _)
  obtain ⟨_, _, _, _, h⟩ := hostArbiter_only s
  have host : s.SameTable s.hostArbiter := by
    rw [h]
    exact sameTable_of_eq rfl rfl rfl rfl
  exact sameTable_trans host (links allLinks _)

end Sys2Proof.Machine
end

section
/-! PROOFS. Every step keeps the laws of the channel table: the events of lines and links, the requests, the step. -/

namespace Sys2Proof.Machine

/-! ### The line bank -/

/-- A line record is written: the laws hold up to the channel that the line sources. -/
theorem lawExcept_setLine {s : State} (h : s.ChannelLaw) (n : LineId) (x : Line) :
    (s.setLine n x).LawExcept fun d => (s.chan d).source = .line n := by
  have law := (channelLaw_iff s).mp h
  refine law.retold (fun _ => sameHolding_refl _) (fun _ => rfl) (fun _ => rfl) fun c hc => ?_
  refine (tells_congr (s := s) (t := s.setLine n x) _ _ (fun n' hn => ?_) (fun _ _ => rfl) fun _ _ => rfl).mpr (law.told c id)
  rw [State.lineAt_setLine, if_neg fun e : n' = n => hc (e ▸ hn)]
  exact sameReading_refl _

/-- R30, R36: a line record is written and the line gives its channel the value it then has, in INPUT mode if it is bound. -/
theorem channelLaw_lineUpdate {s : State} (h : s.ChannelLaw) (n : LineId) (x : Line) (inc : Bool → Nat)
    (mode : (s.lineAt n).mode = .input → x.mode = .input) :
    ((s.setLine n x).updateBound (.line n) .valid x.value inc).ChannelLaw := by
  refine (lawExcept_setLine h n x).updateBound rfl (fun c hc => ?_) inc
  have input := mode (h.lines c n hc).1
  simpa [State.tells] using input

/-- A line that sources no channel may take any record. -/
theorem channelLaw_setLine_unbound {s : State} (h : s.ChannelLaw) {n : LineId} (x : Line)
    (unbound : ∀ c, (s.chan c).source ≠ .line n) : (s.setLine n x).ChannelLaw :=
  (channelLaw_iff _).mpr ((lawExcept_setLine h n x).weaken unbound)

theorem channelLaw_acceptEdge {s : State} (h : s.ChannelLaw) (n : LineId) : (s.acceptEdge n).ChannelLaw :=
  channelLaw_lineUpdate h n (s.lineAt n).accept (fun _ => 1) id

/-- A sample moves no debounced level of a line in INPUT mode; a line in another mode sources no channel (R27 to R29). -/
theorem channelLaw_sampleLine {s : State} (h : s.ChannelLaw) (n : LineId) (level : Bool) : (s.sampleLine n level).ChannelLaw := by
  have sampled : (s.setLine n ((s.lineAt n).sample level)).ChannelLaw := by
    by_cases input : (s.lineAt n).mode = .input
    · refine h.of_sameTable (sameTable_setLine ?_)
      simp only [Line.sample, input, if_true]
      split
      · exact ⟨input ▸ rfl, rfl⟩
      · split <;> exact ⟨input ▸ rfl, rfl⟩
    · exact channelLaw_setLine_unbound h _ fun c hc => input (h.lines c n hc).1
  unfold State.sampleLine
  simp only
  split
  · exact channelLaw_acceptEdge sampled n
  · exact sampled

/-- R36, R37: a LINE_CONFIG that its check lets pass keeps a bound line in INPUT mode and re-takes its value. -/
theorem channelLaw_configureLine {s : State} (h : s.ChannelLaw) (n : LineId) (st : LineSettings)
    (allowed : (∃ c, (s.chan c).source = .line n) → st.mode = .input) : (s.configureLine n st).ChannelLaw := by
  unfold State.configureLine
  simp only
  split
  · rename_i kept
    refine channelLaw_lineUpdate h n _ _ fun _ => ?_
    simp only [Line.configure, kept.1, kept.2, if_true]
    exact kept.2
  · rename_i left
    exact channelLaw_setLine_unbound h _ fun c hc => left ⟨(h.lines c n hc).1, allowed ⟨c, hc⟩⟩

/-! ### Sessions -/

/-- A link engine takes a record with the same channel set: the laws hold up to the channels that depend on the link. -/
theorem lawExcept_modLink {s : State} (h : s.ChannelLaw) (k : LinkId) (f : Link → Link)
    (exported : (f (s.linkAt k)).exported = (s.linkAt k).exported) :
    (s.modLink k f).LawExcept fun d => (s.chan d).source = .link k ∨ (s.chan d).source = .linkStat k := by
  have law := (channelLaw_iff s).mp h
  refine law.retold (fun _ => sameHolding_refl _) (fun _ => rfl) (fun k' => ?_) fun c hc => ?_
  · rw [State.linkAt_modLink]
    split
    · rename_i e
      rw [exported, e]
    · rfl
  · refine (tells_congr (s := s) (t := s.modLink k f) _ _ (fun _ _ => sameReading_refl _) (fun k' hk => ?_) fun _ _ => rfl).mpr (law.told c id)
    rw [State.linkAt_modLink, if_neg]
    rintro rfl
    exact hc hk

/-- A link that moves between two states that are not UP tells its channels nothing new. -/
theorem channelLaw_modLink_down {s : State} (h : s.ChannelLaw) (k : LinkId) (f : Link → Link)
    (exported : (f (s.linkAt k)).exported = (s.linkAt k).exported) (before : (s.linkAt k).state ≠ .up)
    (after : (f (s.linkAt k)).state ≠ .up) : (s.modLink k f).ChannelLaw := by
  have law := (channelLaw_iff s).mp h
  refine (channelLaw_iff _).mpr
    ((lawExcept_modLink h k f exported).retold (fun _ => sameHolding_refl _) (fun _ => rfl) (fun _ => rfl) fun c _ => ?_)
  have old := law.told c id
  unfold State.told at old
  by_cases own : (s.chan c).source = .link k ∨ (s.chan c).source = .linkStat k
  · rcases own with own | own <;> rw [own] at old <;> rw [State.modLink_chan, own]
    · exact fun valid => absurd (old valid) before
    · refine ⟨old.1, ?_⟩
      rw [State.linkAt_modLink, if_pos rfl, decide_eq_false after, old.2, decide_eq_false before]
  · exact (lawExcept_modLink h k f exported).told c own

/-- R69 step 1: the channels that link `k` sources become STALE, whatever the link's state. -/
theorem lawExcept_staleImports {X : ChannelId → Prop} (k : LinkId) (cs : List ChannelId) {s : State} (h : s.LawExcept X) :
    (cs.foldl (State.staleImport k) s).LawExcept fun d => X d ∧ ¬(d ∈ cs ∧ (s.chan d).source = .link k) := by
  induction cs generalizing X s with
  | nil => exact h.weaken fun d hd => ⟨hd, by simp⟩
  | cons c cs ih =>
    have step : (s.staleImport k c).LawExcept _ :=
      h.update (src := .link k) (st := .stale) (v := (s.chan c).value) (fun hv => nomatch hv) c 0
    refine (ih step).weaken fun d ⟨⟨hX, hc⟩, hcs⟩ => ⟨hX, fun ⟨hd, src⟩ => ?_⟩
    rw [State.staleImport, ((update_carries (.link k) c .stale (s.chan c).value 0 s).channel d).1] at hcs
    rcases List.mem_cons.mp hd with rfl | hd
    · exact hc ⟨rfl, src⟩
    · exact hcs ⟨hd, src⟩

/-- R22, R69 step 2: the link-status channel is told whether its link is UP. -/
theorem channelLaw_linkStatus {s : State} {k : LinkId} (h : s.LawExcept fun d => (s.chan d).source = .linkStat k) :
    (s.linkStatus k (decide ((s.linkAt k).state = .up))).ChannelLaw :=
  h.updateBound rfl (fun _ _ => ⟨rfl, rfl⟩) _

theorem staleImports_carries (k : LinkId) (s : State) : s.Carries (s.staleImports k) :=
  foldl_carries _ (fun t c => update_carries (.link k) c .stale (t.chan c).value 0 t) _ s

/-- A move out of UP, or between the other states: where it leaves the link, with the channel set kept. -/
structure LeavesUp (move : Link → Link) : Prop where
  state : ∀ l, (move l).state ≠ .up
  exported : ∀ l, (move l).exported = l.exported

theorem leavesUp_toSeeking : LeavesUp Link.toSeeking := ⟨fun _ => nofun, fun _ => rfl⟩
theorem leavesUp_toOff : LeavesUp Link.toOff := ⟨fun _ => nofun, fun _ => rfl⟩
theorem leavesUp_toFault (cause : FaultCause) : LeavesUp (Link.toFault cause) := ⟨fun _ => nofun, fun _ => rfl⟩

/-- R70: the resolution of the remote requests of a link and the emptying of its slot. -/
theorem sameTable_resolveRequests (k : LinkId) (s : State) :
    s.SameTable ((s.modRemote (RemoteTable.linkDown k)).modLink k fun l => { l with slot := .empty }) :=
  sameTable_trans (sameTable_modRemote _ s) (sameTable_modLink ⟨rfl, rfl⟩)

/-- R67 to R70: what depends on a link that leaves UP is told. -/
theorem channelLaw_leaveUp {s : State} (h : s.ChannelLaw) (k : LinkId) {move : Link → Link} (down : LeavesUp move) :
    (s.leaveUp k move).ChannelLaw := by
  have moved := lawExcept_modLink h k (fun l => move l.clearTransport) (down.exported _)
  have imports := lawExcept_staleImports k allChannels moved
  have carries := staleImports_carries k (s.modLink k fun l => move l.clearTransport)
  have waiting : ((s.modLink k fun l => move l.clearTransport).staleImports k).LawExcept fun d =>
      (((s.modLink k fun l => move l.clearTransport).staleImports k).chan d).source = .linkStat k := by
    refine imports.weaken fun d ⟨dep, notImport⟩ => ?_
    rw [(carries.channel d).1]
    exact dep.resolve_left fun src => notImport ⟨mem_allChannels d, src⟩
  have state : (((s.modLink k fun l => move l.clearTransport).staleImports k).linkAt k).state ≠ .up := by
    rw [carries.link k]
    simpa using down.state _
  have told := channelLaw_linkStatus waiting
  rw [decide_eq_false state] at told
  exact told.of_sameTable (sameTable_resolveRequests k _)

theorem channelLaw_enterFault {s : State} (h : s.ChannelLaw) (k : LinkId) (cause : FaultCause) :
    (s.enterFault k cause).ChannelLaw := by
  unfold State.enterFault
  simp only
  refine State.ChannelLaw.of_sameTable ?_ (sameTable_raise _ _ _)
  split
  · exact channelLaw_leaveUp h k (leavesUp_toFault cause)
  · exact channelLaw_modLink_down h k (Link.toFault cause) rfl ‹_› ((leavesUp_toFault cause).state _)

/-- R63: a link that enters UP backs its imports again, and its link-status channel is told. -/
theorem channelLaw_enterUp {s : State} (h : s.ChannelLaw) (k : LinkId) : (s.enterUp k).ChannelLaw := by
  refine State.ChannelLaw.of_sameTable ?_ (sameTable_raise _ _ _)
  have moved := lawExcept_modLink h k (Link.toUp (s.snapshot (s.linkAt k).exported)) rfl
  have state : ((s.modLink k (Link.toUp (s.snapshot (s.linkAt k).exported))).linkAt k).state = .up := by simp [Link.toUp]
  have waiting : (s.modLink k (Link.toUp (s.snapshot (s.linkAt k).exported))).LawExcept fun d =>
      (s.chan d).source = .linkStat k := by
    refine moved.retold (fun _ => sameHolding_refl _) (fun _ => rfl) (fun _ => rfl) fun c hc => ?_
    by_cases src : (s.chan c).source = .link k
    · rw [State.modLink_chan, src]
      exact fun _ => state
    · exact moved.told c fun dep => dep.elim src hc
  have told := channelLaw_linkStatus (s := s.modLink k (Link.toUp (s.snapshot (s.linkAt k).exported))) waiting
  rw [decide_eq_true state] at told
  exact told

theorem channelLaw_helloInSeeking {s : State} (h : s.ChannelLaw) (k : LinkId) (hello : Hello) :
    (s.helloInSeeking k hello).ChannelLaw := by
  have recorded : (s.modLink k (Link.recordPeer hello)).ChannelLaw := h.of_sameTable (sameTable_modLink ⟨rfl, rfl⟩)
  unfold State.helloInSeeking
  simp only
  split
  · exact h
  · split
    · exact channelLaw_enterFault recorded k _
    · split
      · exact channelLaw_enterFault recorded k _
      · split
        · exact channelLaw_enterUp recorded k
        · exact recorded

theorem channelLaw_helloInUp {s : State} (h : s.ChannelLaw) (k : LinkId) (hello : Hello) : (s.helloInUp k hello).ChannelLaw := by
  unfold State.helloInUp
  split
  · split
    · exact h
    · exact h.of_sameTable (sameTable_modLink ⟨rfl, rfl⟩)
  · split
    · exact h
    · exact channelLaw_helloInSeeking
        ((channelLaw_leaveUp h k leavesUp_toSeeking).of_sameTable (sameTable_raise _ _ _)) k hello

/-! ### Received frames -/

/-- R115, R116: a link that is UP writes the channels it sources. -/
theorem channelLaw_applyEntry {s : State} (h : s.ChannelLaw) {k : LinkId} (up : (s.linkAt k).state = .up) (e : ChangeEntry) :
    (s.applyEntry k e).ChannelLaw ∧ ((s.applyEntry k e).linkAt k).state = .up := by
  unfold State.applyEntry
  split
  · have law := ((channelLaw_iff s).mp h).update (src := .link k) (st := if e.valid then .valid else .stale) (v := e.value)
      (fun _ => up) e.channel (entryIncrement e (s.chan e.channel).value)
    refine ⟨(channelLaw_iff _).mpr (law.weaken fun _ hd => hd.1), ?_⟩
    rw [(update_carries _ _ _ _ _ s).link k]
    exact up
  · exact ⟨h.of_sameTable (sameTable_stray k s), by rw [((sameTable_stray k s).links k).1]; exact up⟩

theorem channelLaw_applyEntries {s : State} (h : s.ChannelLaw) {k : LinkId} (up : (s.linkAt k).state = .up)
    (es : List ChangeEntry) : (es.foldl (State.applyEntry k) s).ChannelLaw := by
  induction es generalizing s with
  | nil => exact h
  | cons e es ih =>
    obtain ⟨law, up⟩ := channelLaw_applyEntry h up e
    exact ih law up

theorem sameTable_takeRres (k : LinkId) (tag kind status : Byte) (data : List Byte) (s : State) :
    s.SameTable (s.takeRres k tag kind status data) := by
  have late (e : RemoteEntry) : s.SameTable ((s.modRemote (RemoteTable.lateAnswer e)).raise .lateReply 0) :=
    sameTable_trans (sameTable_modRemote _ s) (sameTable_raise _ _ _)
  unfold State.takeRres
  split
  · exact sameTable_stray k s
  · split
    · exact sameTable_modRemote _ s
    · exact sameTable_stray k s
    · split
      · exact late _
      · exact sameTable_stray k s
    · exact late _

theorem sameTable_takeRreq (k : LinkId) (tag kind : Byte) (body : List Byte) (s : State) :
    s.SameTable (s.takeRreq k tag kind body) := by
  unfold State.takeRreq
  split
  · exact sameTable_modLink ⟨rfl, rfl⟩
  · exact sameTable_stray k s
  · exact sameTable_stray k s

theorem channelLaw_handOn {s : State} (h : s.ChannelLaw) {k : LinkId} (up : (s.linkAt k).state = .up) (kind : DataKind)
    (body : List Byte) : (s.handOn k kind body).ChannelLaw := by
  unfold State.handOn
  split
  · exact channelLaw_applyEntries h up _
  · split
    · exact h.of_sameTable (sameTable_takeRreq _ _ _ _ s)
    · exact h
  · split
    · exact h.of_sameTable (sameTable_takeRres _ _ _ _ _ s)
    · exact h

theorem channelLaw_classify {s : State} (h : s.ChannelLaw) {k : LinkId} (up : (s.linkAt k).state = .up) (kind : DataKind)
    (seq : Byte) (body : List Byte) : (s.classify k kind seq body).ChannelLaw := by
  unfold State.classify
  simp only
  split
  · exact channelLaw_handOn (h.of_sameTable (sameTable_modLink ⟨rfl, rfl⟩)) (by simpa [Link.oweAck] using up) kind body
  · split <;> exact h.of_sameTable (sameTable_modLink ⟨rfl, rfl⟩)

theorem channelLaw_handleInSeeking {s : State} (h : s.ChannelLaw) (k : LinkId) (f : LinkFrame) :
    (s.handleInSeeking k f).ChannelLaw := by
  unfold State.handleInSeeking
  split
  · split
    · exact channelLaw_helloInSeeking h k _
    · exact h
  · exact h

theorem channelLaw_handleInUp {s : State} (h : s.ChannelLaw) {k : LinkId} (up : (s.linkAt k).state = .up) (f : LinkFrame) :
    (s.handleInUp k f).ChannelLaw := by
  unfold State.handleInUp
  split
  · split
    · exact channelLaw_helloInUp h k _
    · exact h
  · split
    · exact channelLaw_classify h up _ _ _
    · exact h

theorem channelLaw_takeFrame {s : State} (h : s.ChannelLaw) (k : LinkId) (f : LinkFrame) (good : Bool) :
    (s.takeFrame k f good).ChannelLaw := by
  have bad : (s.badFrame k).ChannelLaw :=
    h.of_sameTable (sameTable_trans (sameTable_modLink ⟨rfl, rfl⟩) (sameTable_raise _ _ _))
  unfold State.takeFrame
  split
  · exact h
  · exact h
  · split
    · exact channelLaw_handleInSeeking (h.of_sameTable (sameTable_modLink ⟨rfl, rfl⟩)) k f
    · exact bad
  · rename_i up
    split
    · have taken : (s.linkAt k).SameSession
          (Link.takeAck f.ack { (s.linkAt k).countGood with silenceTimer := some (ofTenMs (s.linkAt k).config.silence) }) :=
        sameSession_trans ⟨rfl, rfl⟩ (sameSession_takeAck _ _)
      refine channelLaw_handleInUp (h.of_sameTable (sameTable_modLink taken)) ?_ f
      rw [State.linkAt_modLink, if_pos rfl, taken.1, up]
    · exact bad

theorem channelLaw_linkByte {s : State} (h : s.ChannelLaw) (k : LinkId) (b : Byte) : (s.linkByte k b).ChannelLaw := by
  unfold State.linkByte
  simp only
  split
  · exact h.of_sameTable (sameTable_modLink ⟨rfl, rfl⟩)
  · exact channelLaw_takeFrame (h.of_sameTable (sameTable_modLink ⟨rfl, rfl⟩)) k _ _

/-! ### Timers -/

theorem channelLaw_silenceExpiry {s : State} (h : s.ChannelLaw) (k : LinkId) : (s.silenceExpiry k).ChannelLaw :=
  (channelLaw_leaveUp h k leavesUp_toSeeking).of_sameTable (sameTable_raise _ _ _)

/-- R57: a hold-off runs in FAULT alone, so that its expiry takes no link out of UP. -/
theorem channelLaw_holdOffExpiry {s : State} (h : s.ChannelLaw) (k : LinkId) (fault : (s.linkAt k).state = .fault) :
    (s.modLink k Link.holdOffExpiry).ChannelLaw := by
  have after : (s.linkAt k).holdOffExpiry.exported = (s.linkAt k).exported ∧ (s.linkAt k).holdOffExpiry.state ≠ .up := by
    unfold Link.holdOffExpiry
    split
    · exact ⟨rfl, nofun⟩
    · exact ⟨rfl, by simp [fault]⟩
  exact channelLaw_modLink_down h k _ after.1 (by simp [fault]) after.2

theorem channelLaw_retransmitExpiry {s : State} (h : s.ChannelLaw) (k : LinkId) : (s.retransmitExpiry k).ChannelLaw := by
  unfold State.retransmitExpiry
  simp only
  split
  · exact channelLaw_enterFault (h.of_sameTable (sameTable_modLink ⟨rfl, rfl⟩)) k _
  · exact h.of_sameTable (sameTable_trans (sameTable_modLink ⟨rfl, rfl⟩) (sameTable_modLink ⟨rfl, rfl⟩))

theorem sameTable_entryTimeout (tag : Byte) (s : State) : s.SameTable (s.entryTimeout tag) := by
  unfold State.entryTimeout
  split
  · exact sameTable_refl s
  · exact sameTable_trans (sameTable_modRemote _ s) (sameTable_raise _ _ _)

/-! ### Resets -/

theorem get_replicate {α : Type} (n : Nat) (x : α) (i : Fin n) : (Vector.replicate n x).get i = x := by
  simp [Vector.get_eq_getElem]

@[simp] theorem resetWith_chan (rate : UartRate) (notices : List Notice) (held : Bool) (pending : List Instr) (c : ChannelId) :
    (State.resetWith rate notices held pending).chan c = Channel.reset := get_replicate _ _ c

@[simp] theorem resetWith_lineAt (rate : UartRate) (notices : List Notice) (held : Bool) (pending : List Instr) (n : LineId) :
    (State.resetWith rate notices held pending).lineAt n = Line.reset := get_replicate _ _ n

@[simp] theorem resetWith_comb (rate : UartRate) (notices : List Notice) (held : Bool) (pending : List Instr) (m : CombinerId) :
    (State.resetWith rate notices held pending).comb m = Combiner.reset := get_replicate _ _ m

@[simp] theorem resetWith_linkAt (rate : UartRate) (notices : List Notice) (held : Bool) (pending : List Instr) (k : LinkId) :
    (State.resetWith rate notices held pending).linkAt k = Link.reset := get_replicate _ _ k

/-- After a reset no channel has a source and no combiner has a member (R4, R55). -/
theorem channelLaw_resetWith (rate : UartRate) (notices : List Notice) (held : Bool) (pending : List Instr) :
    (State.resetWith rate notices held pending).ChannelLaw := by
  refine (channelLaw_iff _).mpr ⟨fun c d he _ => ?_, fun c k hc => ?_, fun c m hc => ?_, fun m => ?_, fun c _ => ?_⟩
  · rw [resetWith_chan] at he; cases he
  · rw [resetWith_chan] at hc; cases hc
  · rw [resetWith_comb] at hc; cases hc
  · rw [resetWith_comb]; rfl
  · rw [State.told, resetWith_chan]; rfl

theorem channelLaw_hostTxEnd {s : State} (h : s.ChannelLaw) : s.hostTxEnd.ChannelLaw := by
  unfold State.hostTxEnd
  simp only
  split
  · exact channelLaw_resetWith _ _ _ _
  · exact h.of_sameTable (sameTable_modHost _ s)

end Sys2Proof.Machine
end

section
/-! PROOFS. Every request, every event and the passing of time keep the laws of the channel table. -/

namespace Sys2Proof.Machine

/-! ### CHANNEL_BIND and CHANNEL_UNBIND -/

/-- A channel takes a source that R11 and R12 allow: the laws hold up to that channel, which waits for the source's reading. -/
theorem lawExcept_setSource {s : State} (h : s.ChannelLaw) (c : ChannelId) (src : ChannelSource)
    (free : src.exclusive = true → ∀ d, (s.chan d).source ≠ src)
    (echo : ∀ k, src = .link k → (s.linkAt k).exports c = false)
    (nesting : src.isCombiner = true → ∀ m, (s.comb m).hasMember c = false) :
    (s.setChan c { s.chan c with source := src }).LawExcept fun d => d = c where
  sources d e := by
    simp only [State.chan_setChan]
    split <;> split
    · simp_all
    · exact fun he hsrc => absurd hsrc.symm (free he e)
    · exact fun he hsrc => absurd hsrc (free (by rwa [hsrc] at he) d)
    · exact h.sources d e
  echo d k := by
    rw [State.chan_setChan]
    split
    · rename_i same
      exact fun hsrc => same ▸ echo k hsrc
    · exact h.echo d k
  nesting d m := by
    rw [State.chan_setChan]
    split
    · rename_i same
      intro member
      rw [State.setChan_comb, same] at member
      by_contra combiner
      rw [nesting (by simpa using combiner) m] at member
      cases member
    · exact h.nesting d m
  current m := by
    refine Eq.trans (evaluate_congr fun d _ => ?_) (h.current m)
    rw [State.chan_setChan]
    split
    · rename_i same
      rw [same]
      exact ⟨rfl, rfl⟩
    · exact ⟨rfl, rfl⟩
  told d hd := by
    rw [State.told, State.chan_setChan, if_neg hd]
    exact ((channelLaw_iff s).mp h).told d id

/-- A channel takes a source and at once the reading that the source gives. -/
theorem channelLaw_setSource_change {s : State} {c : ChannelId} {src : ChannelSource}
    (h : (s.setChan c { s.chan c with source := src }).LawExcept fun d => d = c) {st : Validity} {v : Bool}
    (reading : s.tells st v src) (inc : Nat) :
    (State.change c st v inc (s.setChan c { s.chan c with source := src })).ChannelLaw := by
  refine (channelLaw_iff _).mpr ((h.change (c := c) ?_ inc).weaken fun d hd => hd.2 hd.1)
  rw [State.chan_setChan, if_pos rfl]
  exact (tells_congr (s := s) _ _ (fun _ _ => sameReading_refl _) (fun _ _ => rfl) fun _ _ => rfl).mpr reading

/-- R11, R12: the checks of CHANNEL_BIND, one status for each. -/
theorem bindRefusal_eq (c : ChannelId) (src : ChannelSource) (s : State) :
    s.bindRefusal c src =
      if (s.chan c).source ≠ .none then some .conflict
      else if src.exclusive = true ∧ ∃ d, (s.chan d).source = src then some .conflict
      else if ∃ n, src = .line n ∧ (s.lineAt n).mode ≠ .input then some .wrongState
      else if ∃ k, src = .link k ∧ (s.linkAt k).exports c = true then some .loop
      else if ∃ m, src = .combiner m ∧ ∃ m', (s.comb m').hasMember c = true then some .loop
      else none := by
  have taken : (src.exclusive && (s.boundTo src).isSome) = true ↔ src.exclusive = true ∧ ∃ d, (s.chan d).source = src := by
    rw [Bool.and_eq_true, boundTo_isSome]
  have mode : s.lineNotInput src = true ↔ ∃ n, src = .line n ∧ (s.lineAt n).mode ≠ .input := by
    cases src <;> simp [State.lineNotInput]
  have loops : s.bindLoops c src = true ↔
      (∃ k, src = .link k ∧ (s.linkAt k).exports c = true) ∨ ∃ m, src = .combiner m ∧ ∃ m', (s.comb m').hasMember c = true := by
    cases src <;> simp [State.bindLoops, mem_allCombiners]
  simp only [State.bindRefusal, taken, mode, loops]
  split_ifs <;> simp_all

/-- R11, R12: what the checks of CHANNEL_BIND let pass. -/
theorem bindRefusal_eq_none {c : ChannelId} {src : ChannelSource} {s : State} :
    s.bindRefusal c src = none ↔
      (s.chan c).source = .none ∧ ¬(src.exclusive = true ∧ ∃ d, (s.chan d).source = src) ∧
        (∀ n, src = .line n → (s.lineAt n).mode = .input) ∧ (∀ k, src = .link k → (s.linkAt k).exports c = false) ∧
        (∀ m, src = .combiner m → ∀ m', (s.comb m').hasMember c = false) := by
  rw [bindRefusal_eq]
  split_ifs <;> simp_all

/-- R13: the initial reading is what the source then says. -/
theorem initialReading_told {s : State} {src : ChannelSource} (bindable : src ≠ .none) (old : Bool)
    (input : ∀ n, src = .line n → (s.lineAt n).mode = .input) : s.tells (s.initialReading old src).1 (s.initialReading old src).2 src := by
  cases src with
  | none => exact absurd rfl bindable
  | line n => exact ⟨input n rfl, rfl, rfl⟩
  | host => trivial
  | link k => exact fun valid => nomatch valid
  | combiner m => exact ⟨rfl, rfl⟩
  | linkStat k => exact ⟨rfl, Bool.eq_iff_iff.mpr (by simp [State.initialReading])⟩

theorem channelLaw_bind {s : State} (h : s.ChannelLaw) {c : ChannelId} {src : ChannelSource} (bindable : src ≠ .none)
    (allowed : s.bindRefusal c src = none) : (s.bind c src).ChannelLaw := by
  obtain ⟨-, free, input, echo, members⟩ := bindRefusal_eq_none.mp allowed
  refine channelLaw_setSource_change (lawExcept_setSource h c src (fun he d hd => free ⟨he, d, hd⟩) echo fun combiner => ?_)
    (initialReading_told bindable _ input) _
  cases src with
  | combiner m => exact members m rfl
  | _ => cases combiner

theorem channelLaw_unbind {s : State} (h : s.ChannelLaw) (c : ChannelId) : (s.unbind c).ChannelLaw := by
  unfold State.unbind
  split
  · exact h
  · exact channelLaw_setSource_change
      (lawExcept_setSource h c .none (fun he => nomatch he) (fun _ hk => nomatch hk) fun hc => nomatch hc) rfl 0

/-! ### COMBINER_CONFIG -/

/-- R48: after a combiner has taken a record that an evaluation leaves as it is, its channel follows it. -/
theorem channelLaw_giveCombinerUpdate {s : State} (h : s.ChannelLaw) (m : CombinerId) (cb : Combiner)
    (current : cb.evaluate s.chan = cb) (nesting : ∀ c, cb.hasMember c = true → (s.chan c).source.isCombiner = false) :
    ((s.setComb m cb).giveCombinerUpdate m (s.comb m)).ChannelLaw := by
  have carries := giveCombinerUpdate_carries m (s.comb m) (s.setComb m cb)
  have chan (d : ChannelId) : ((s.setComb m cb).giveCombinerUpdate m (s.comb m)).chan d =
      if (s.chan d).source = .combiner m then (s.chan d).follow (s.comb m) cb else s.chan d := by
    rw [giveCombinerUpdate_chan (s := s.setComb m cb) h.sources, State.setComb_chan, State.comb_setComb, if_pos rfl]
  have nested (c m') (hc : ((s.setComb m cb).comb m').hasMember c = true) : (s.chan c).source.isCombiner = false := by
    rw [State.comb_setComb] at hc
    split at hc
    · exact nesting c hc
    · exact h.nesting c m' hc
  refine (channelLaw_iff _).mpr {
    sources := oneChannelPerSource_of_carries carries h.sources
    echo := fun d k hd => ?_
    nesting := fun d m' hd => ?_
    current := fun m' => ?_
    told := fun d _ => ?_ }
  · rw [(carries.channel d).1] at hd
    rw [carries.link k]
    exact h.echo d k hd
  · rw [giveCombinerUpdate_comb] at hd
    rw [(carries.channel d).1]
    exact nested d m' hd
  · have members : ((s.setComb m cb).comb m').evaluate ((s.setComb m cb).giveCombinerUpdate m (s.comb m)).chan =
        ((s.setComb m cb).comb m').evaluate s.chan :=
      evaluate_congr fun d hd => by
        have other : (s.chan d).source ≠ .combiner m := fun e => by simpa [e, ChannelSource.isCombiner] using nested d m' hd
        rw [chan, if_neg other]
        exact ⟨rfl, rfl⟩
    rw [giveCombinerUpdate_comb, members, State.comb_setComb]
    split
    · exact current
    · exact h.current m'
  · have old := ((channelLaw_iff s).mp h).told d id
    rw [State.told, (carries.channel d).1, State.setComb_chan, chan]
    by_cases own : (s.chan d).source = .combiner m
    · rw [State.told, own] at old
      rw [if_pos own, own, State.tells, giveCombinerUpdate_comb, State.comb_setComb, if_pos rfl]
      exact follow_state_value old
    · rw [if_neg own]
      refine (tells_congr (s := s) _ _ (fun n _ => ?_) (fun k _ => ?_) fun m' hm => ?_).mpr old
      · rw [carries.line n]; exact ⟨rfl, rfl⟩
      · rw [carries.link k]; rfl
      · rw [giveCombinerUpdate_comb, State.comb_setComb, if_neg fun e : m' = m => own (e ▸ hm)]

theorem channelLaw_configureCombiner {s : State} (h : s.ChannelLaw) (m : CombinerId) (st : CombinerSettings)
    (allowed : ∀ mb ∈ st.members, (s.chan mb.channel).source.isCombiner = false) : (s.configureCombiner m st).ChannelLaw := by
  refine channelLaw_giveCombinerUpdate h m _ (evaluate_evaluate _ _ _) fun c hc => ?_
  obtain ⟨mb, hmb, rfl⟩ := (hasMember_iff _ _).mp hc
  exact allowed mb hmb

/-! ### LINK_EXPORT -/

theorem channelLaw_exportChannels {s : State} (h : s.ChannelLaw) (k : LinkId) (set : ChannelSet)
    (allowed : ∀ c : ChannelId, set.getLsbD c = true → (s.chan c).source ≠ .link k) : (s.exportChannels k set).ChannelLaw := by
  have law := (channelLaw_iff s).mp h
  refine (channelLaw_iff _).mpr ⟨h.sources, fun c k' hc => ?_, h.nesting, h.current, fun c hc => ?_⟩
  · rw [State.exportChannels, State.linkAt_modLink]
    split
    · rename_i same
      subst same
      by_contra exported
      exact allowed c (by simpa [Link.exports] using exported) hc
    · exact h.echo c k' hc
  · refine (tells_congr (s := s) (t := s.exportChannels k set) _ _ (fun _ _ => sameReading_refl _) (fun k' _ => ?_) fun _ _ => rfl).mpr (law.told c id)
    rw [State.exportChannels, State.linkAt_modLink]
    split
    · rename_i same
      rw [same]
    · rfl

/-! ### The rules of the requests -/

/-- A rule keeps the laws where it carries its request out. -/
def RequestRule.KeepsChannelLaw (rule : RequestRule) : Prop :=
  ∀ body s t data, s.ChannelLaw → rule body s = .ok (t, data) → t.ChannelLaw

/-- A rule that carries its request out leaves all that the laws read. -/
def RequestRule.LeavesTable (rule : RequestRule) : Prop := ∀ body s t data, rule body s = .ok (t, data) → s.SameTable t

theorem RequestRule.LeavesTable.keeps {rule : RequestRule} (h : rule.LeavesTable) : rule.KeepsChannelLaw :=
  fun body s t data law ht => law.of_sameTable (h body s t data ht)

theorem unknownKindRule_leavesTable : RequestRule.LeavesTable unknownKindRule := fun _ _ _ _ ht => nomatch ht

theorem identifyRule_leavesTable : RequestRule.LeavesTable identifyRule := by
  intro body s t data ht
  cases ht
  exact sameTable_refl s

theorem statusRule_leavesTable : RequestRule.LeavesTable statusRule := by
  intro body s t data ht
  cases ht
  exact sameTable_refl s

theorem resetRule_leavesTable : RequestRule.LeavesTable resetRule := by
  intro body s t data ht
  cases ht
  exact sameTable_of_eq rfl rfl rfl rfl

theorem setNodeRule_leavesTable : RequestRule.LeavesTable setNodeRule := by
  intro body s t data ht
  unfold setNodeRule at ht
  repeat' split at ht
  all_goals cases ht
  exact sameTable_of_eq rfl rfl rfl rfl

theorem channelWatchRule_leavesTable : RequestRule.LeavesTable channelWatchRule := by
  intro body s t data ht
  unfold channelWatchRule at ht
  repeat' split at ht
  all_goals cases ht
  exact sameTable_setChan ⟨rfl, rfl, rfl⟩

theorem channelReadRule_leavesTable : RequestRule.LeavesTable channelReadRule := by
  intro body s t data ht
  unfold channelReadRule at ht
  repeat' split at ht
  all_goals cases ht
  exact sameTable_refl s

theorem lineSetRule_leavesTable : RequestRule.LeavesTable lineSetRule := by
  intro body s t data ht
  unfold lineSetRule at ht
  repeat' split at ht
  all_goals cases ht
  exact sameTable_setLine ⟨rfl, rfl⟩

theorem lineReadRule_leavesTable : RequestRule.LeavesTable lineReadRule := by
  intro body s t data ht
  unfold lineReadRule at ht
  repeat' split at ht
  all_goals cases ht
  exact sameTable_refl s

theorem combinerReadRule_leavesTable : RequestRule.LeavesTable combinerReadRule := by
  intro body s t data ht
  unfold combinerReadRule at ht
  repeat' split at ht
  all_goals cases ht
  exact sameTable_refl s

theorem linkConfigRule_leavesTable : RequestRule.LeavesTable linkConfigRule := by
  intro body s t data ht
  unfold linkConfigRule at ht
  repeat' split at ht
  all_goals cases ht
  exact sameTable_modLink ⟨rfl, rfl⟩

theorem linkPolicyRule_leavesTable : RequestRule.LeavesTable linkPolicyRule := by
  intro body s t data ht
  unfold linkPolicyRule at ht
  repeat' split at ht
  all_goals cases ht
  exact sameTable_modLink ⟨rfl, rfl⟩

theorem linkStatusRule_leavesTable : RequestRule.LeavesTable linkStatusRule := by
  intro body s t data ht
  unfold linkStatusRule at ht
  repeat' split at ht
  all_goals cases ht
  exact sameTable_refl s

theorem linkStatsRule_leavesTable : RequestRule.LeavesTable linkStatsRule := by
  intro body s t data ht
  unfold linkStatsRule at ht
  repeat' split at ht
  all_goals cases ht
  · exact sameTable_modLink ⟨rfl, rfl⟩
  · exact sameTable_refl s

theorem remoteSendRule_leavesTable : RequestRule.LeavesTable remoteSendRule := by
  intro body s t data ht
  unfold remoteSendRule at ht
  repeat' split at ht
  all_goals cases ht
  exact sameTable_modRemote _ s

theorem eventsReadRule_leavesTable : RequestRule.LeavesTable eventsReadRule := by
  intro body s t data ht
  cases ht
  exact sameTable_refl s

theorem eventsClearRule_leavesTable : RequestRule.LeavesTable eventsClearRule := by
  intro body s t data ht
  unfold eventsClearRule at ht
  repeat' split at ht
  all_goals cases ht
  exact sameTable_of_eq rfl rfl rfl rfl

theorem noticeConfigRule_leavesTable : RequestRule.LeavesTable noticeConfigRule := by
  intro body s t data ht
  unfold noticeConfigRule at ht
  repeat' split at ht
  all_goals cases ht
  exact sameTable_modEvents _ s

theorem alertConfigRule_leavesTable : RequestRule.LeavesTable alertConfigRule := by
  intro body s t data ht
  unfold alertConfigRule at ht
  repeat' split at ht
  all_goals cases ht
  exact sameTable_of_eq rfl rfl rfl rfl

theorem hostStatsRule_leavesTable : RequestRule.LeavesTable hostStatsRule := by
  intro body s t data ht
  unfold hostStatsRule at ht
  repeat' split at ht
  all_goals cases ht
  · exact sameTable_modHost _ s
  · exact sameTable_refl s

theorem sourceOf_ne_none {kind index : Byte} {src : ChannelSource} (h : sourceOf kind index = some src) : src ≠ .none := by
  rintro rfl
  unfold sourceOf at h
  split at h <;> simp at h

theorem channelBindRule_keeps : RequestRule.KeepsChannelLaw channelBindRule := by
  intro body s t data h ht
  unfold channelBindRule at ht
  repeat' split at ht
  all_goals cases ht
  exact channelLaw_bind h (sourceOf_ne_none ‹_›) ‹_›

theorem channelUnbindRule_keeps : RequestRule.KeepsChannelLaw channelUnbindRule := by
  intro body s t data h ht
  unfold channelUnbindRule at ht
  repeat' split at ht
  all_goals cases ht
  exact channelLaw_unbind h _

/-- R16 to R19: the host says of its channels what it likes. -/
theorem channelSetRule_keeps (effect : ChannelId → State → State)
    (update : ∀ c s, ∃ st v inc, effect c s = s.update .host c st v inc) : RequestRule.KeepsChannelLaw (channelSetRule effect) := by
  intro body s t data h ht
  unfold channelSetRule at ht
  repeat' split at ht
  all_goals cases ht
  obtain ⟨st, v, inc, e⟩ := update ‹_› s
  rw [e]
  exact (channelLaw_iff _).mpr ((((channelLaw_iff s).mp h).update (src := .host) trivial _ _).weaken fun _ hd => hd.1)

theorem lineConfigRule_keeps : RequestRule.KeepsChannelLaw lineConfigRule := by
  intro body s t data h ht
  unfold lineConfigRule at ht
  repeat' split at ht
  all_goals cases ht
  rename_i allowed
  refine channelLaw_configureLine h _ _ fun bound => ?_
  by_contra other
  exact allowed ⟨boundTo_isSome.mpr bound, other⟩

theorem combinerConfigRule_keeps : RequestRule.KeepsChannelLaw combinerConfigRule := by
  intro body s t data h ht
  unfold combinerConfigRule at ht
  repeat' split at ht
  all_goals cases ht
  rename_i allowed
  exact channelLaw_configureCombiner h _ _ (by simpa using allowed)

theorem linkExportRule_keeps : RequestRule.KeepsChannelLaw linkExportRule := by
  intro body s t data h ht
  unfold linkExportRule at ht
  simp only at ht
  repeat' split at ht
  all_goals cases ht
  rename_i allowed
  exact channelLaw_exportChannels h _ _ (by simpa [mem_allChannels] using allowed)

theorem linkControlRule_keeps (act : LinkId → State → Except Status State)
    (keeps : ∀ k s t, s.ChannelLaw → act k s = .ok t → t.ChannelLaw) : RequestRule.KeepsChannelLaw (linkControlRule act) := by
  intro body s t data h ht
  unfold linkControlRule at ht
  split at ht
  · split at ht
    · rename_i k _ _ _
      cases acted : act k s with
      | error e => rw [acted] at ht; cases ht
      | ok u => rw [acted] at ht; cases ht; exact keeps k s _ h acted
    · cases ht
  · cases ht

theorem enableLink_keeps (k : LinkId) (s t : State) (h : s.ChannelLaw) (ht : enableLink k s = .ok t) : t.ChannelLaw := by
  unfold enableLink at ht
  repeat' split at ht
  all_goals cases ht
  rename_i off _
  exact channelLaw_modLink_down h k Link.toSeeking rfl (by simp_all) (leavesUp_toSeeking.state _)

theorem disableLink_keeps (k : LinkId) (s t : State) (h : s.ChannelLaw) (ht : disableLink k s = .ok t) : t.ChannelLaw := by
  unfold disableLink at ht
  split at ht <;> obtain rfl := Except.ok.inj ht
  · exact h
  · exact channelLaw_leaveUp h k leavesUp_toOff
  · exact channelLaw_modLink_down h k Link.toOff rfl ‹_› (leavesUp_toOff.state _)

theorem restartLink_keeps (k : LinkId) (s t : State) (h : s.ChannelLaw) (ht : restartLink k s = .ok t) : t.ChannelLaw := by
  unfold restartLink at ht
  split at ht
  · cases ht
  all_goals obtain rfl := Except.ok.inj ht
  · exact channelLaw_leaveUp h k leavesUp_toSeeking
  · exact channelLaw_modLink_down h k Link.toSeeking rfl ‹_› (leavesUp_toSeeking.state _)

/-! ### Events, requests, steps -/

theorem event_keeps {occurs : Bool} {effect : State → State} {s t : State} (h : s.ChannelLaw)
    (keeps : occurs = true → (effect s).ChannelLaw) (ht : event occurs effect s = .next t) : t.ChannelLaw := by
  rcases event_cases occurs effect s with idle | ⟨-, on, taken⟩
  · rw [idle] at ht
    cases ht
    exact h
  · rw [taken] at ht
    cases ht
    exact (keeps on).of_sameTable (sameTable_settle _)

theorem expiry_keeps {timer : Timer} {effect : State → State} {s t : State} (h : s.ChannelLaw)
    (keeps : timer = some 0 → (effect s).ChannelLaw) (ht : expiry timer effect s = .next t) : t.ChannelLaw :=
  event_keeps h (fun on => keeps ((ranOut_iff timer).mp on)) ht

theorem request_keeps {serves : HostFrame → Bool} {rule : RequestRule} {s t : State} (h : s.ChannelLaw)
    (keeps : rule.KeepsChannelLaw) (ht : request serves rule s = .next t) : t.ChannelLaw := by
  rcases request_cases serves rule s with idle | ⟨g, -, -, -, granted⟩
  · rw [idle] at ht
    cases ht
    exact h
  · rw [granted] at ht
    cases ht
    have taken : (s.takeGrant g).ChannelLaw := h.of_sameTable (sameTable_takeGrant g s)
    refine State.ChannelLaw.of_sameTable ?_ (sameTable_settle _)
    rcases execute_cases g rule s with ⟨u, data, judged, acted⟩ | ⟨status, -, refused⟩
    · rw [acted]
      refine State.ChannelLaw.of_sameTable ?_ (sameTable_answer _ _ _ _)
      rcases judge_cases g rule (s.takeGrant g) with e | e | e | ⟨-, -, -, e⟩ <;> rw [e] at judged
      · cases judged
      · cases judged
      · cases judged
      · exact keeps _ _ _ _ taken judged
    · rw [refused]
      exact taken.of_sameTable (sameTable_answer _ _ _ _)

/-- Every command keeps the laws of the channel table. -/
theorem exec_keeps_channelLaw (i : Instr) {s t : State} (h : s.ChannelLaw) (links : s.LinkLaw) (ht : exec i s = .next t) :
    t.ChannelLaw := by
  have quiet {f : State → State} (same : s.SameTable (f s)) : (f s).ChannelLaw := h.of_sameTable same
  have modLink {k : LinkId} {f : Link → Link} (same : (s.linkAt k).SameSession (f (s.linkAt k))) : (s.modLink k f).ChannelLaw :=
    h.of_sameTable (sameTable_modLink same)
  cases i with
  | powerResetEntry => cases ht; exact channelLaw_resetWith _ _ _ _
  | powerResetExit rate1 rate0 => cases ht; exact (channelLaw_resetWith _ _ _ _).of_sameTable (sameTable_settle _)
  | lineSample n level => exact event_keeps h (fun _ => channelLaw_sampleLine h n level) ht
  | debounceExpiry n => exact expiry_keeps h (fun _ => channelLaw_acceptEdge h n) ht
  | hostFrameReceived b => exact event_keeps h (fun _ => quiet (sameTable_hostByte b s)) ht
  | hostBadLength b => exact event_keeps h (fun _ => quiet (sameTable_hostByte b s)) ht
  | hostByteReceived b => exact event_keeps h (fun _ => quiet (sameTable_hostByte b s)) ht
  | hostGapTimerExpiry => exact expiry_keeps h (fun _ => quiet (sameTable_framingError s)) ht
  | hostCharacterError => exact event_keeps h (fun _ => quiet (sameTable_framingError s)) ht
  | hostTxEnd => exact event_keeps h (fun _ => channelLaw_hostTxEnd h) ht
  | unknownKindRequest => exact request_keeps (serves := fun r => !isRequestKind r.kind) h unknownKindRule_leavesTable.keeps ht
  | identify => exact request_keeps h identifyRule_leavesTable.keeps ht
  | status => exact request_keeps h statusRule_leavesTable.keeps ht
  | reset => exact request_keeps h resetRule_leavesTable.keeps ht
  | setNode => exact request_keeps h setNodeRule_leavesTable.keeps ht
  | channelBind => exact request_keeps h channelBindRule_keeps ht
  | channelUnbind => exact request_keeps h channelUnbindRule_keeps ht
  | channelSetDrive0 => exact request_keeps h (channelSetRule_keeps _ fun _ _ => ⟨_, _, _, rfl⟩) ht
  | channelSetDrive1 => exact request_keeps h (channelSetRule_keeps _ fun _ _ => ⟨_, _, _, rfl⟩) ht
  | channelSetPulse => exact request_keeps h (channelSetRule_keeps _ fun _ _ => ⟨_, _, _, rfl⟩) ht
  | channelSetWithdraw => exact request_keeps h (channelSetRule_keeps _ fun _ _ => ⟨_, _, _, rfl⟩) ht
  | channelWatch => exact request_keeps h channelWatchRule_leavesTable.keeps ht
  | channelRead => exact request_keeps h channelReadRule_leavesTable.keeps ht
  | lineConfig => exact request_keeps h lineConfigRule_keeps ht
  | lineSet => exact request_keeps h lineSetRule_leavesTable.keeps ht
  | lineRead => exact request_keeps h lineReadRule_leavesTable.keeps ht
  | combinerConfig => exact request_keeps h combinerConfigRule_keeps ht
  | combinerRead => exact request_keeps h combinerReadRule_leavesTable.keeps ht
  | linkControlEnable => exact request_keeps h (linkControlRule_keeps _ enableLink_keeps) ht
  | linkControlDisable => exact request_keeps h (linkControlRule_keeps _ disableLink_keeps) ht
  | linkControlRestart => exact request_keeps h (linkControlRule_keeps _ restartLink_keeps) ht
  | linkConfig => exact request_keeps h linkConfigRule_leavesTable.keeps ht
  | linkPolicy => exact request_keeps h linkPolicyRule_leavesTable.keeps ht
  | linkStatus => exact request_keeps h linkStatusRule_leavesTable.keeps ht
  | linkExport => exact request_keeps h linkExportRule_keeps ht
  | linkStats => exact request_keeps h linkStatsRule_leavesTable.keeps ht
  | remoteSend => exact request_keeps h remoteSendRule_leavesTable.keeps ht
  | eventsRead => exact request_keeps h eventsReadRule_leavesTable.keeps ht
  | eventsClear => exact request_keeps h eventsClearRule_leavesTable.keeps ht
  | noticeConfig => exact request_keeps h noticeConfigRule_leavesTable.keeps ht
  | alertConfig => exact request_keeps h alertConfigRule_leavesTable.keeps ht
  | hostStats => exact request_keeps h hostStatsRule_leavesTable.keeps ht
  | linkFrameReceived k b => exact event_keeps h (fun _ => channelLaw_linkByte h k b) ht
  | linkByteReceived k b => exact event_keeps h (fun _ => channelLaw_linkByte h k b) ht
  | linkFramerGapExpiry k => exact expiry_keeps h (fun _ => modLink ⟨rfl, rfl⟩) ht
  | helloTimerExpiry k => exact expiry_keeps h (fun _ => modLink ⟨rfl, rfl⟩) ht
  | keepaliveTimerExpiry k => exact expiry_keeps h (fun _ => modLink ⟨rfl, rfl⟩) ht
  | silenceTimerExpiry k => exact expiry_keeps h (fun _ => channelLaw_silenceExpiry h k) ht
  | holdOffExpiry k =>
    exact expiry_keeps h (fun out => channelLaw_holdOffExpiry h k ((links k).session.holdOff (by rw [out]; rfl))) ht
  | retransmitTimerExpiry k => exact expiry_keeps h (fun _ => channelLaw_retransmitExpiry h k) ht
  | ackTimerExpiry k => exact expiry_keeps h (fun _ => modLink ⟨rfl, rfl⟩) ht
  | linkTxEnd k => exact event_keeps h (fun _ => modLink ⟨rfl, rfl⟩) ht
  | remoteEntryTimeout tag => exact expiry_keeps h (fun _ => quiet (sameTable_entryTimeout tag s)) ht

theorem channelLaw_idle {s : State} (h : s.ChannelLaw) : s.idle.ChannelLaw := by
  unfold State.idle
  split
  · exact h
  · exact h.of_sameTable (sameTable_trans (sameTable_settle s) (sameTable_passTime _))

/-- Settles O54, with one law per channel (`State.told`) that each update restores, and one case for each command. -/
theorem everyStepKeepsChannelLaw : Obligations.EveryStepKeepsChannelLaw := by
  intro s t h links ht
  unfold step at ht
  split at ht
  · cases ht
    exact channelLaw_idle h
  · rename_i rest _
    exact exec_keeps_channelLaw (s := { s with pending := rest }) _ (h.of_sameTable (sameTable_of_eq rfl rfl rfl rfl)) links ht

end Sys2Proof.Machine
end

section
/-! PROOFS. The statements about updates, offers and what follows from them: O21, O22, O23, O24. -/

namespace Sys2Proof.Machine

/-! ### Updates -/

theorem writeChan_eq (c : ChannelId) (st : Validity) (v : Bool) (inc : Nat) (s : State) :
    s.writeChan c st v inc =
      s.setChan c { s.chan c with state := st, value := v, edges := BitVec.ofNat 16 ((s.chan c).edges.toNat + inc) } := by
  rw [State.writeChan, BitVec.ofNat_add, BitVec.ofNat_toNat, BitVec.setWidth_eq]

theorem changes_eq_false_iff (st : Validity) (v : Bool) (inc : Nat) (ch : Channel) :
    ch.changes st v inc = false ↔ ch.state = st ∧ ch.value = v ∧ inc = 0 := by
  rw [← Bool.not_eq_true, changes_iff]
  tauto

/-- R7, R8: an update that moves nothing is written, one that moves something is offered too. -/
theorem change_eq (c : ChannelId) (st : Validity) (v : Bool) (inc : Nat) (s : State) :
    s.change c st v inc =
      if (s.chan c).state = st ∧ (s.chan c).value = v ∧ inc = 0 then s.writeChan c st v inc
      else ((s.writeChan c st v inc).offer c inc).offerCombiners c := by
  simp only [State.change, ← changes_eq_false_iff]
  cases (s.chan c).changes st v inc <;> rfl

theorem changeConsequent_eq (c : ChannelId) (st : Validity) (v : Bool) (inc : Nat) (s : State) :
    s.changeConsequent c st v inc =
      if (s.chan c).state = st ∧ (s.chan c).value = v ∧ inc = 0 then s.writeChan c st v inc
      else (s.writeChan c st v inc).offer c inc := by
  simp only [State.changeConsequent, ← changes_eq_false_iff]
  cases (s.chan c).changes st v inc <;> rfl

theorem exclusive_iff (src : ChannelSource) :
    src.exclusive = true ↔ (∃ n, src = .line n) ∨ (∃ m, src = .combiner m) ∨ ∃ k, src = .linkStat k := by
  cases src <;> simp [ChannelSource.exclusive]

theorem updateBound_unbound {s : State} {src : ChannelSource} (h : ∀ c, (s.chan c).source ≠ src) (st : Validity) (v : Bool)
    (inc : Bool → Nat) : s.updateBound src st v inc = s := by
  rw [State.updateBound, boundTo_eq_none.mpr h]

theorem updateBound_bound {s : State} {src : ChannelSource} (hs : s.oneChannelPerSource) (he : src.exclusive = true)
    {c : ChannelId} (hc : (s.chan c).source = src) (st : Validity) (v : Bool) (inc : Bool → Nat) :
    s.updateBound src st v inc = s.change c st v (inc (s.chan c).value) := by
  simp only [State.updateBound, boundTo_eq_some hs he hc, State.update, hc, if_true]

/-- Settles O21: an update opens into a written record and the offers. -/
theorem updateIsAppliedFromItsSource : Obligations.UpdateIsAppliedFromItsSource := by
  refine ⟨fun s src c st v inc => ⟨fun stranger => update_stranger stranger st v inc, fun own => ?_⟩, exclusive_iff,
    fun s src st v inc hs he => ⟨fun unbound => updateBound_unbound unbound st v inc,
      fun c hc => updateBound_bound hs he hc st v inc⟩⟩
  rw [State.update, if_pos own, change_eq, writeChan_eq]

/-! ### Offers -/

/-- The state with other line records and other link records. -/
def State.withBanks (L : Vector Line Config.lineCount) (K : Vector Link Config.linkCount) (s : State) : State :=
  { s with lines := L, links := K }

section
variable (L : Vector Line Config.lineCount) (K : Vector Link Config.linkCount) (c : ChannelId) (inc : Nat) (s : State)

theorem dropNotice_withBanks : (s.withBanks L K).dropNotice = s.dropNotice.withBanks L K := by
  unfold State.dropNotice
  rw [apply_ite (State.withBanks L K)]
  rfl

theorem queueNotice_withBanks (n : Notice) : (s.withBanks L K).queueNotice n = (s.queueNotice n).withBanks L K := by
  unfold State.queueNotice
  rw [apply_ite (State.withBanks L K), dropNotice_withBanks]
  rfl

theorem noticeChange_withBanks : (s.withBanks L K).noticeChange c inc = (s.noticeChange c inc).withBanks L K := by
  unfold State.noticeChange
  simp only [apply_ite (State.withBanks L K), queueNotice_withBanks]
  rfl

/-- The event unit's part of an offer reads and writes neither lines nor links. -/
theorem offerEvents_withBanks : (s.withBanks L K).offerEvents c inc = (s.offerEvents c inc).withBanks L K := by
  have watch : (if ((s.withBanks L K).chan c).watch then (s.withBanks L K).noticeChange c inc else s.withBanks L K) =
      State.withBanks L K (if (s.chan c).watch then s.noticeChange c inc else s) := by
    rw [apply_ite (State.withBanks L K), noticeChange_withBanks]
    rfl
  unfold State.offerEvents
  simp only [watch]
  generalize (if (s.chan c).watch then s.noticeChange c inc else s) = t
  rw [apply_ite (State.withBanks L K)]
  rfl

end

/-- R108: the merge leaves the list alone before the channel's entry, and appends where there is none. -/
theorem mergeChange_eq (c : ChannelId) (v ok : Bool) (inc : Nat) (l : List ChangeEntry)
    (distinct : (l.map ChangeEntry.channel).Nodup) :
    mergeChange c v ok inc l =
      if c ∈ l.map ChangeEntry.channel then
        l.map fun e => if e.channel = c then ⟨c, v, ok, min 15 (e.edges + inc)⟩ else e
      else l ++ [⟨c, v, ok, min 15 inc⟩] := by
  induction l with
  | nil => rfl
  | cons e es ih =>
    obtain ⟨fresh, distinct⟩ := List.nodup_cons.mp distinct
    rw [mergeChange]
    by_cases own : e.channel = c
    · have rest : es.map (fun e => if e.channel = c then (⟨c, v, ok, min 15 (e.edges + inc)⟩ : ChangeEntry) else e) = es := by
        refine (List.map_congr_left fun e' he' => if_neg fun same => fresh ?_).trans (List.map_id _)
        exact own ▸ same ▸ List.mem_map_of_mem he'
      simp [own, rest, satEdges, Config.entryEdges]
    · rw [if_neg own, ih distinct]
      by_cases later : c ∈ es.map ChangeEntry.channel
      · simp [later, own]
      · simp [later, Ne.symm own]

/-- Settles O22: what an offer gives each consumer, block by block, and the merge by induction on the list. -/
theorem offerReachesEachConsumer : Obligations.OfferReachesEachConsumer := by
  refine ⟨fun s c inc => ⟨fun n => ?_, fun k => ?_, fun _ => rfl, ?_, ?_⟩, mergeChange_eq⟩
  · rw [offer_lineAt]; rfl
  · rw [offer_linkAt, Link.takeOffer, beq_eq_decide]
  · change ((s.withBanks _ _).offerEvents c inc).events = _
    rw [offerEvents_withBanks]
    rfl
  · obtain ⟨_, _, _, _, h⟩ := offer_only c inc s
    rw [h]
    exact ⟨rfl, rfl, rfl, rfl, rfl, rfl, rfl, rfl, rfl, rfl, rfl, rfl⟩

/-! ### The event unit's part -/

/-- R184: a watched change merges into the channel's notice, or makes a new one. -/
theorem noticeChange_eq (c : ChannelId) (inc : Nat) (s : State) :
    s.noticeChange c inc =
      if ∃ n ∈ s.events.notices, n.isChannel c = true then
        s.modEvents fun e =>
          { e with notices := e.notices.map (Notice.merge c (s.chan c).state (s.chan c).value inc) }
      else s.queueNotice (.channel c (s.chan c).state (s.chan c).value (satAdd 0 inc)) := by
  simp only [State.noticeChange, List.any_eq_true]

theorem noticeChange_alertChannel (c : ChannelId) (inc : Nat) (s : State) :
    (s.noticeChange c inc).events.alertChannel = s.events.alertChannel := by
  obtain ⟨_, _, _, _, h⟩ := noticeChange_only c inc s
  rw [h]

theorem satAdd_zero (n : Nat) : satAdd 0 n = BitVec.ofNat 16 (min 65535 n) := by simp [satAdd]

/-- Settles O23, the watch part by its three cases and then the alert part. -/
theorem watchedChangeQueuesOneNotice : Obligations.WatchedChangeQueuesOneNotice := by
  intro s c inc ch queued t
  have watch : (if ch.watch then s.noticeChange c inc else s) = t := by
    simp only [t]
    cases ch.watch with
    | false => rfl
    | true =>
      rw [if_pos rfl, if_neg (by decide), noticeChange_eq, State.queueNotice, satAdd_zero]
      congr 1
      simp only [queued, State.modEvents]
      congr 3
      funext n
      cases n with
      | channel d st v e =>
        by_cases own : d = c
        · subst own; simp [Notice.merge, satAdd, ch]
        · simp [Notice.merge, own]
      | _ => rfl
  have alert : t.events.alertChannel = s.events.alertChannel := by
    rw [← watch]
    split
    · exact noticeChange_alertChannel c inc s
    · rfl
  rw [← alert, ← watch]
  rfl

/-! ### What a change leads to -/

theorem change_chan_self {s : State} (hs : s.oneChannelPerSource) (nesting : s.noNesting) (c : ChannelId) (st : Validity)
    (v : Bool) (inc : Nat) : (s.change c st v inc).chan c = (s.chan c).updated st v inc := by
  have written : (s.writeChan c st v inc).chan c = (s.chan c).updated st v inc := by
    rw [writeChan_chan_updated, if_pos rfl]
  by_cases src : ∃ m, (s.chan c).source = .combiner m
  · obtain ⟨m, src⟩ := src
    by_cases moved : (s.chan c).changes st v inc = true
    · rw [change_chan_combiner hs moved c m src, change_comb_of_combiner nesting src, follow_same, written]
    · simp only [State.change, moved]
      exact written
  · rw [change_chan_other hs c (not_exists.mp src), written]

/-- R48: where the channel has its combiner's output before, what it follows is the output after. -/
theorem follow_eq {before after : Combiner} {ch : Channel} (h : ch.state = before.outState ∧ ch.value = before.outValue) :
    ch.follow before after =
      { ch with
        state := after.outState
        value := after.outValue
        edges := ch.edges + (if after.outValue = ch.value then 0 else 1) } := by
  unfold Channel.follow
  rw [h.2]
  split
  · rename_i same
    rw [if_pos same.1, same.1, same.2, ← h.1, ← h.2, add_zero]
  · unfold Channel.updated
    split <;> rfl

/-- Settles O24: the channels and combiners after a change, the two steps that lead there, and the frame (`State.Carries`). -/
theorem changeCarriesThroughCombiners : Obligations.ChangeCarriesThroughCombiners := by
  refine ⟨fun s c st v inc hs nesting outputs moves => ?_, ⟨fun s c st v inc => ?_, hasMember_iff, fun s c => ?_⟩,
    fun s c st v inc => ?_⟩
  · have moved : (s.chan c).changes st v inc = true := (changes_iff st v inc _).mpr moves
    have other (d : ChannelId) (hd : d ≠ c) : (s.writeChan c st v inc).chan d = s.chan d := by
      rw [writeChan_chan_updated, if_neg hd]
    refine ⟨change_chan_self hs nesting c st v inc, fun m => ?_, fun d m hd src => ?_, fun d hd src => ?_⟩
    · rw [change_comb moved, Combiner.takeOffer]
      split
      · exact evaluate_congr fun d hd => by
          rw [change_chan_other hs d (member_source nesting hd)]
          exact ⟨rfl, rfl⟩
      · rfl
    · rw [change_chan_combiner hs moved d m src, other d hd]
      exact follow_eq (outputs d m src)
    · rw [change_chan_other hs d (fun m e => by rw [e] at src; cases src), other d hd]
  · rw [changeConsequent_eq, writeChan_eq]
  · exact ⟨s.evaluateCombiners c, evaluateCombiners_comb c s, rfl, rfl⟩
  · have carries := change_carries c st v inc s
    refine ⟨carries.channel, carries.line, carries.link, carries.comb, ?_⟩
    obtain ⟨_, _, _, _, _, _, _, _, h⟩ := carries.rest
    rw [h]
    exact ⟨rfl, rfl, rfl, rfl, rfl, rfl, rfl, rfl, rfl, rfl⟩

end Sys2Proof.Machine
end

section
/-! PROOFS. What a granted request that passes the common checks answers, and what the bytes of a channel request name. -/

namespace Sys2Proof.Machine

/-! ### A granted request -/

/-- A grant leaves every record that a rule reads. -/
theorem takeGrant_records (g : Grant) (s : State) :
    (s.takeGrant g).channels = s.channels ∧ (s.takeGrant g).lines = s.lines ∧ (s.takeGrant g).combiners = s.combiners ∧
      (s.takeGrant g).links = s.links := by
  obtain ⟨_, h⟩ := takeGrant_only g s
  rw [h]
  exact ⟨rfl, rfl, rfl, rfl⟩

@[simp] theorem takeGrant_chan (g : Grant) (s : State) (c : ChannelId) : (s.takeGrant g).chan c = s.chan c :=
  congrArg (·.get c) (takeGrant_records g s).1

@[simp] theorem takeGrant_lineAt (g : Grant) (s : State) (n : LineId) : (s.takeGrant g).lineAt n = s.lineAt n :=
  congrArg (·.get n) (takeGrant_records g s).2.1

@[simp] theorem takeGrant_comb (g : Grant) (s : State) (m : CombinerId) : (s.takeGrant g).comb m = s.comb m :=
  congrArg (·.get m) (takeGrant_records g s).2.2.1

@[simp] theorem takeGrant_linkAt (g : Grant) (s : State) (k : LinkId) : (s.takeGrant g).linkAt k = s.linkAt k :=
  congrArg (·.get k) (takeGrant_records g s).2.2.2

@[simp] theorem takeGrant_permits (g : Grant) (s : State) : (s.takeGrant g).permits g = s.permits g := by
  simp only [State.permits, takeGrant_linkAt]

/-- R147, R151: what follows a rule's verdict on a granted request. -/
def State.conclude (s : State) (g : Grant) : Except Status (State × List Byte) → State
  | .ok (u, data) => State.okReply g data u
  | .error status => s.refusal g status

@[simp] theorem conclude_ok (s : State) (g : Grant) (u : State) (data : List Byte) :
    s.conclude g (.ok (u, data)) = State.okReply g data u := rfl

@[simp] theorem conclude_error (s : State) (g : Grant) (status : Status) :
    s.conclude g (.error status) = s.refusal g status := rfl

/-- R148: a granted request that passes the common checks is decided by the rule that owns it. -/
theorem request_of_grants {s : State} {g : Grant} {kind : Byte} {body : List Byte} (h : s.Grants g kind body)
    {serves : HostFrame → Bool} (served : serves g.req = true) (known : isRequestKind kind = true)
    (fits : lengthFits kind body = true) (rule : RequestRule) :
    request serves rule s = .next (s.conclude g (rule body (s.takeGrant g))) := by
  have judged : judge g rule (s.takeGrant g) = rule body (s.takeGrant g) := by
    simp [judge, h.kind, h.body, known, fits, h.permitted]
  rw [request_granted h.running h.next served, State.execute, judged]
  cases rule body (s.takeGrant g) <;> rfl

theorem ofKind_of_grants {s : State} {g : Grant} {kind : Byte} {body : List Byte} (h : s.Grants g kind body) :
    ofKind kind g.req = true := by simp [ofKind, h.kind]

/-! ### What a byte names -/

theorem indexOf_eq_none {n : Nat} {b : Byte} : indexOf n b = none ↔ n ≤ b.toNat := by
  unfold indexOf
  split
  · simpa using ‹b.toNat < n›
  · simpa using ‹¬b.toNat < n›

theorem channelOf_eq_none {b : Byte} : channelOf b = none ↔ 64 ≤ b.toNat := indexOf_eq_none

theorem boolOf_eq (b : Byte) : boolOf b = if 2 ≤ b.toNat then none else some (b == 1) := by
  unfold boolOf
  split
  · rename_i h; subst h; rfl
  · split
    · rename_i h; subst h; rfl
    · rw [if_pos (by bv_omega)]

theorem setActionOf_eq_none {b : Byte} : setActionOf b = none ↔ 4 ≤ b.toNat := by
  unfold setActionOf
  split
  · simp_all
  · simp_all
  · simp_all
  · simp_all
  · simp_all
    omega

/-! ### CHANNEL_BIND -/

/-- Settles O15: the checks fall in order (`bindRefusal_eq`), and the reading is that of the source's kind. -/
theorem channelBindChecksThenBinds : Obligations.ChannelBindChecksThenBinds := by
  intro s g cb kind index h
  rw [exec, execChannelBind, request_of_grants h (ofKind_of_grants h) rfl rfl, channelBindRule]
  congr 1
  cases channelOf cb with
  | none => rfl
  | some c =>
    cases sourceOf kind index with
    | none => rfl
    | some src =>
      simp only [bindRefusal_eq, takeGrant_chan, takeGrant_lineAt, takeGrant_comb, takeGrant_linkAt]
      by_cases bound : (s.chan c).source ≠ .none
      · rw [if_pos bound, if_pos bound]; rfl
      rw [if_neg bound, if_neg bound]
      by_cases taken : src.exclusive = true ∧ ∃ d, (s.chan d).source = src
      · rw [if_pos taken, if_pos taken]; rfl
      rw [if_neg taken, if_neg taken]
      by_cases mode : ∃ n, src = .line n ∧ (s.lineAt n).mode ≠ .input
      · rw [if_pos mode, if_pos mode]; rfl
      rw [if_neg mode, if_neg mode]
      by_cases echo : ∃ k, src = .link k ∧ (s.linkAt k).exports c = true
      · rw [if_pos echo, if_pos echo]; rfl
      rw [if_neg echo, if_neg echo]
      by_cases nested : ∃ m, src = .combiner m ∧ ∃ m', (s.comb m').hasMember c = true
      · rw [if_pos nested, if_pos nested]; rfl
      rw [if_neg nested, if_neg nested]
      simp only [conclude_ok, State.bind, takeGrant_chan, edgeIf]
      cases src with
      | line n => simp only [State.initialReading, takeGrant_lineAt, Line.value]
      | combiner m => simp only [State.initialReading, takeGrant_comb]
      | linkStat k => simp only [State.initialReading, takeGrant_linkAt, beq_eq_decide]
      | _ => rfl

/-! ### CHANNEL_UNBIND and CHANNEL_WATCH -/

/-- Settles O17, request by request. -/
theorem channelUnbindAndWatch : Obligations.ChannelUnbindAndWatch := by
  constructor
  · intro s g cb h
    rw [exec, execChannelUnbind, request_of_grants h (ofKind_of_grants h) rfl rfl, channelUnbindRule]
    congr 1
    cases channelOf cb with
    | none => rfl
    | some c =>
      simp only [conclude_ok, State.unbind, takeGrant_chan]
      split <;> rfl
  · intro s g cb w h
    rw [exec, execChannelWatch, request_of_grants h (ofKind_of_grants h) rfl rfl, channelWatchRule, boolOf_eq]
    congr 1
    cases channelOf cb with
    | none => rfl
    | some c =>
      by_cases bad : 2 ≤ w.toNat
      · simp only [bad, if_true, conclude_error]
      · simp only [bad, if_false, conclude_ok, takeGrant_chan]

/-! ### CHANNEL_SET -/

/-- R16: the verdict of CHANNEL_SET on a channel with source HOST. -/
theorem channelSetRule_host {effect : ChannelId → State → State} {cb a : Byte} {c : ChannelId} {s : State}
    (hc : channelOf cb = some c) (ha : a.toNat < 4) (host : (s.chan c).source = .host) :
    channelSetRule effect [cb, a] s = .ok (effect c s, []) := by
  obtain ⟨action, named⟩ := Option.ne_none_iff_exists'.mp (mt setActionOf_eq_none.mp (Nat.not_le.mpr ha))
  simp only [channelSetRule, hc, named, host, if_true]

theorem channelSetRule_stranger {effect : ChannelId → State → State} {cb a : Byte} {c : ChannelId} {s : State}
    (hc : channelOf cb = some c) (ha : a.toNat < 4) (stranger : (s.chan c).source ≠ .host) :
    channelSetRule effect [cb, a] s = .error .wrongState := by
  obtain ⟨action, named⟩ := Option.ne_none_iff_exists'.mp (mt setActionOf_eq_none.mp (Nat.not_le.mpr ha))
  simp only [channelSetRule, hc, named, stranger, if_false]

theorem channelSetRule_unnamed {effect : ChannelId → State → State} {cb a : Byte} {s : State}
    (unnamed : 64 ≤ cb.toNat ∨ 4 ≤ a.toNat) : channelSetRule effect [cb, a] s = .error .badArgument := by
  rw [channelSetRule]
  rcases unnamed with bad | bad
  · simp only [channelOf_eq_none.mpr bad]
  · rw [setActionOf_eq_none.mpr bad]
    cases channelOf cb <;> rfl

/-- The four rows of CHANNEL_SET are one rule with four effects. -/
theorem channelSet_rows {row : Instr}
    (h : row ∈ [Instr.channelSetDrive0, .channelSetDrive1, .channelSetPulse, .channelSetWithdraw]) :
    ∃ effect, ∀ s, exec row s = request (requestsOf row) (channelSetRule effect) s := by
  simp only [List.mem_cons, List.not_mem_nil, or_false] at h
  rcases h with rfl | rfl | rfl | rfl
  · exact ⟨State.driveChannel false, fun _ => rfl⟩
  · exact ⟨State.driveChannel true, fun _ => rfl⟩
  · exact ⟨State.pulseChannel, fun _ => rfl⟩
  · exact ⟨State.withdrawChannel, fun _ => rfl⟩

theorem ofSetAction_of_grants {s : State} {g : Grant} {cb a : Byte} (h : s.Grants g 0x07 [cb, a]) {action : SetAction}
    (named : setActionOf a = some action) : ofSetAction action g.req = true := by
  simp [ofSetAction, h.kind, h.body, named]

theorem update_own {src : ChannelSource} {c : ChannelId} {s : State} (own : (s.chan c).source = src) (st : Validity) (v : Bool)
    (inc : Nat) : s.update src c st v inc = s.change c st v inc := by simp [State.update, own]

/-- Settles O18: the four effects on a host channel, and the two refusals, alike in every row. -/
theorem channelSetDrivesHostChannels : Obligations.ChannelSetDrivesHostChannels := by
  constructor
  · intro s g cb c hc host
    have taken : ((s.takeGrant g).chan c).source = .host := by rw [takeGrant_chan, host]
    have row {a : Byte} {action : SetAction} (effect : ChannelId → State → State) (named : setActionOf a = some action)
        (ha : a.toNat < 4) (h : s.Grants g 0x07 [cb, a]) :
        request (ofSetAction action) (channelSetRule effect) s = .next (State.okReply g [] (effect c (s.takeGrant g))) := by
      rw [request_of_grants h (ofSetAction_of_grants h named) rfl rfl, channelSetRule_host hc ha taken, conclude_ok]
    refine ⟨fun h => ?_, fun h => ?_, fun h => ?_, fun h => ?_⟩
    · rw [exec, execChannelSetDrive0, row _ rfl (by decide) h, State.driveChannel, update_own taken, takeGrant_chan]
      cases (s.chan c).value <;> rfl
    · rw [exec, execChannelSetDrive1, row _ rfl (by decide) h, State.driveChannel, update_own taken, takeGrant_chan]
      cases (s.chan c).value <;> rfl
    · rw [exec, execChannelSetPulse, row _ rfl (by decide) h, State.pulseChannel, update_own taken, takeGrant_chan]
    · rw [exec, execChannelSetWithdraw, row _ rfl (by decide) h, State.withdrawChannel, update_own taken, takeGrant_chan]
  · intro s g cb a row h mem served
    obtain ⟨effect, run⟩ := channelSet_rows mem
    rw [run s, request_of_grants h served rfl rfl]
    refine ⟨fun unnamed => ?_, fun c hc ha stranger => ?_⟩
    · rw [channelSetRule_unnamed unnamed, conclude_error]
    · rw [channelSetRule_stranger hc ha (by rwa [takeGrant_chan]), conclude_error]

end Sys2Proof.Machine
end

section
/-! PROOFS. The range reads, the operand codes, and the reset values: O19, O16, O3. -/

namespace Sys2Proof.Machine

/-! ### Range reads -/

/-- The records of a range, in ascending order, counted from the first. -/
theorem finRange_filter_range {total : Nat} [NeZero total] (f n : Nat) (fits : f + n ≤ total) :
    ((List.finRange total).filter fun i => f ≤ i.val && i.val < f + n) =
      (List.range n).map fun i => Fin.ofNat total (f + i) := by
  have small (i : Nat) (hi : i < n) : (Fin.ofNat total (f + i)).val = f + i := Nat.mod_eq_of_lt (by omega)
  refine List.Pairwise.eq_of_mem_iff (r := (· < ·)) ((List.sortedLT_finRange total).pairwise.filter _) ?_ fun i => ?_
  · rw [List.pairwise_map]
    refine List.pairwise_lt_range.imp_of_mem fun {i j} hi hj lt => ?_
    rw [Fin.lt_def, small i (List.mem_range.mp hi), small j (List.mem_range.mp hj)]
    omega
  · simp only [List.mem_filter, List.mem_finRange, true_and, Bool.and_eq_true, decide_eq_true_eq, List.mem_map, List.mem_range]
    constructor
    · rintro ⟨low, high⟩
      exact ⟨i.val - f, by omega, Fin.ext (by rw [small _ (by omega)]; omega)⟩
    · rintro ⟨j, hj, rfl⟩
      rw [small j hj]
      omega

/-- R24, R40: which ranges a read takes, and the records it then reports. -/
theorem readRange_eq {total : Nat} [NeZero total] (most : Nat) (f n : Byte) :
    readRange total most f n =
      if total ≤ f.toNat ∨ n = 0 ∨ most < n.toNat ∨ total < f.toNat + n.toNat then none
      else some ((List.range n.toNat).map fun i => Fin.ofNat total (f.toNat + i)) := by
  have zero : n = 0 ↔ n.toNat = 0 := by rw [← BitVec.toNat_inj]; rfl
  unfold readRange
  simp only [zero]
  by_cases bad : total ≤ f.toNat ∨ n.toNat = 0 ∨ most < n.toNat ∨ total < f.toNat + n.toNat
  · rw [if_pos bad, if_neg (by omega)]
  · rw [if_neg bad, if_pos (by omega), finRange_filter_range _ _ (by omega)]

/-- Settles O19, with `readRange_eq` for both tables. -/
theorem readsReportARange : Obligations.ReadsReportARange := by
  constructor
  · intro s g f n h
    rw [exec, execChannelRead, request_of_grants h (ofKind_of_grants h) rfl rfl, channelReadRule, readRange_eq]
    congr 1
    by_cases bad : 64 ≤ f.toNat ∨ n = 0 ∨ 12 < n.toNat ∨ 64 < f.toNat + n.toNat
    · rw [if_pos bad, if_pos bad, conclude_error]
    · simp only [if_neg bad, conclude_ok, List.flatMap_map, takeGrant_chan, takeGrant_linkAt]
  · intro s g f n h
    rw [exec, execLineRead, request_of_grants h (ofKind_of_grants h) rfl rfl, lineReadRule, readRange_eq]
    congr 1
    by_cases bad : 24 ≤ f.toNat ∨ n = 0 ∨ 8 < n.toNat ∨ 24 < f.toNat + n.toNat
    · rw [if_pos bad, if_pos bad, conclude_error]
    · simp only [if_neg bad, conclude_ok, List.flatMap_map, takeGrant_lineAt]

/-! ### Codes of one byte -/

theorem eq_ofNat_iff (b : Byte) (n : Nat) (hn : n < 256) : b = BitVec.ofNat 8 n ↔ b.toNat = n := by
  rw [← BitVec.toNat_inj, BitVec.toNat_ofNat, Nat.mod_eq_of_lt hn]

/-- R11 check 1: the source that a source kind and a source index name. -/
theorem sourceOf_eq (kind index : Byte) :
    sourceOf kind index =
      if kind = 1 then (if h : index.toNat < 24 then some (.line ⟨index.toNat, h⟩) else none)
      else if kind = 2 then (if index = 0 then some .host else none)
      else if kind = 3 then (if h : index.toNat < 4 then some (.link ⟨index.toNat, h⟩) else none)
      else if kind = 4 then (if h : index.toNat < 8 then some (.combiner ⟨index.toNat, h⟩) else none)
      else if kind = 5 then (if h : index.toNat < 4 then some (.linkStat ⟨index.toNat, h⟩) else none)
      else none := by
  have named {α : Type} (n : Nat) (f : Fin n → α) :
      (indexOf n index).map f = if h : index.toNat < n then some (f ⟨index.toNat, h⟩) else none := by
    unfold indexOf
    split <;> rfl
  unfold sourceOf
  split
  next h => obtain rfl := (eq_ofNat_iff kind 1 (by decide)).mpr h; exact named 24 _
  next h => obtain rfl := (eq_ofNat_iff kind 2 (by decide)).mpr h; rfl
  next h => obtain rfl := (eq_ofNat_iff kind 3 (by decide)).mpr h; exact named 4 _
  next h => obtain rfl := (eq_ofNat_iff kind 4 (by decide)).mpr h; exact named 8 _
  next h => obtain rfl := (eq_ofNat_iff kind 5 (by decide)).mpr h; exact named 4 _
  next h1 h2 h3 h4 h5 =>
    rw [if_neg, if_neg, if_neg, if_neg, if_neg]
    all_goals rintro rfl; contradiction

section
variable {b : Byte}

theorem modeOf_eq_none : modeOf b = none ↔ 2 < b.toNat := by unfold modeOf; split <;> simp_all; omega
theorem pullOf_eq_none : pullOf b = none ↔ 2 < b.toNat := by unfold pullOf; split <;> simp_all; omega
theorem outputOf_eq_none : outputOf b = none ↔ 1 < b.toNat := by unfold outputOf; split <;> simp_all; omega
theorem staleOf_eq_none : staleOf b = none ↔ 3 < b.toNat := by unfold staleOf; split <;> simp_all; omega
theorem boolOf_eq_none : boolOf b = none ↔ 1 < b.toNat := by rw [boolOf_eq]; split <;> simp <;> omega

theorem driverOf_eq_none : driverOf b = none ↔ 64 ≤ b.toNat ∧ b ≠ 0xFF := by
  unfold driverOf
  split
  · simp_all
  · simp_all [channelOf_eq_none]

theorem code_of_modeOf {m : LineMode} (h : modeOf b = some m) : m.code = b := by
  unfold modeOf at h
  split at h <;> cases h <;> exact (BitVec.eq_of_toNat_eq ‹_›).symm

theorem code_of_pullOf {p : Pull} (h : pullOf b = some p) : p.code = b := by
  unfold pullOf at h
  split at h <;> cases h <;> exact (BitVec.eq_of_toNat_eq ‹_›).symm

theorem code_of_outputOf {o : OutputType} (h : outputOf b = some o) : o.code = b := by
  unfold outputOf at h
  split at h <;> cases h <;> exact (BitVec.eq_of_toNat_eq ‹_›).symm

theorem code_of_staleOf {a : StaleAction} (h : staleOf b = some a) : a.code = b := by
  unfold staleOf at h
  split at h <;> cases h <;> exact (BitVec.eq_of_toNat_eq ‹_›).symm

theorem toNat_of_boolOf {v : Bool} (h : boolOf b = some v) : v.toNat = b.toNat := by
  unfold boolOf at h
  split_ifs at h with zero one <;> cases h
  · rw [zero]; rfl
  · rw [one]; rfl

theorem code_of_driverOf {r : Driver} (h : driverOf b = some r) : r.code = b := by
  unfold driverOf at h
  split at h
  · rename_i manual
    cases h
    exact manual.symm
  · obtain ⟨c, hc, rfl⟩ := Option.map_eq_some_iff.mp h
    unfold channelOf indexOf at hc
    split at hc <;> cases hc
    simp [Driver.code, byteOfNat]

end

/-- R36 check 1: a setting that names no value refuses them all. -/
theorem lineSettingsOf_eq_none {mode pull polarity debounce output idle driver stale manual : Byte} :
    lineSettingsOf mode pull polarity debounce output idle driver stale manual = none ↔
      2 < mode.toNat ∨ 2 < pull.toNat ∨ 1 < polarity.toNat ∨ 1 < output.toNat ∨ 1 < idle.toNat ∨
        (64 ≤ driver.toNat ∧ driver ≠ 0xFF) ∨ 3 < stale.toNat ∨ 1 < manual.toNat := by
  rw [← modeOf_eq_none, ← pullOf_eq_none, ← boolOf_eq_none, ← outputOf_eq_none, ← boolOf_eq_none, ← driverOf_eq_none,
    ← staleOf_eq_none, ← boolOf_eq_none]
  unfold lineSettingsOf
  split
  · simp_all
  · rename_i missing
    simp only [true_iff]
    by_contra all
    simp only [not_or, ← ne_eq, Option.ne_none_iff_exists'] at all
    obtain ⟨⟨m, hm⟩, ⟨p, hp⟩, ⟨i, hi⟩, ⟨o, ho⟩, ⟨d, hd⟩, ⟨r, hr⟩, ⟨a, ha⟩, ⟨v, hv⟩⟩ := all
    exact missing m p i o d r a v hm hp hi ho hd hr ha hv

theorem codes_of_lineSettingsOf {mode pull polarity debounce output idle driver stale manual : Byte} {st : LineSettings}
    (h : lineSettingsOf mode pull polarity debounce output idle driver stale manual = some st) :
    st.mode.code = mode ∧ st.pull.code = pull ∧ st.inverted.toNat = polarity.toNat ∧ st.debounce = debounce ∧
      st.output.code = output ∧ st.idle.toNat = idle.toNat ∧ st.driver.code = driver ∧ st.stale.code = stale ∧
      st.manual.toNat = manual.toNat := by
  unfold lineSettingsOf at h
  split at h
  next hm hp hi ho hd hr ha hv =>
    cases h
    exact ⟨code_of_modeOf hm, code_of_pullOf hp, toNat_of_boolOf hi, rfl, code_of_outputOf ho, toNat_of_boolOf hd,
      code_of_driverOf hr, code_of_staleOf ha, toNat_of_boolOf hv⟩
  next => cases h

/-- R194: bit `j` of the set stands in byte `j / 8`, at bit `j % 8`. -/
theorem channelsOfBytes_getLsbD (bytes : List Byte) (j : Nat) (hj : j < 64) :
    (channelsOfBytes bytes).getLsbD j = (bytes.getD (j / 8) 0).getLsbD (j % 8) := by
  induction bytes generalizing j with
  | nil => simp [channelsOfBytes]
  | cons b bytes ih =>
    have head : (channelsOfBytes (b :: bytes)).getLsbD j =
        (!decide (j < 8) && (channelsOfBytes bytes).getLsbD (j - 8) || b.getLsbD j) := by
      simp only [channelsOfBytes, List.foldr_cons, BitVec.getLsbD_or, BitVec.getLsbD_shiftLeft, BitVec.getLsbD_setWidth, hj,
        decide_true, Bool.true_and]
    rw [head]
    by_cases first : j < 8
    · simp [first, Nat.div_eq_of_lt first, Nat.mod_eq_of_lt first]
    · have later : j / 8 = (j - 8) / 8 + 1 := by omega
      have same : j % 8 = (j - 8) % 8 := by omega
      rw [ih (j - 8) (by omega), later, same, List.getD_cons_succ, BitVec.getLsbD_of_ge b j (by omega)]
      simp [first]

/-- Settles O16, code by code. -/
theorem operandCodes : Obligations.OperandCodes :=
  ⟨⟨sourceOf_eq, fun _ => rfl, fun _ => rfl, fun _ => rfl, fun _ => rfl⟩,
    fun _ _ _ _ _ _ _ _ _ => ⟨lineSettingsOf_eq_none, fun _ => codes_of_lineSettingsOf⟩,
    fun bytes c _ => channelsOfBytes_getLsbD bytes c.val c.isLt⟩

/-! ### Reset values -/

theorem flag_number_lt (f : Flag) : f.number < 31 := by
  cases f with
  | linkUp k | linkLost k | linkFault k | peerRestart k | linkCrc k | linkStray k =>
    have four : k.val < 4 := k.isLt
    simp only [Flag.number]
    omega
  | _ => decide

/-- Settles O3, block by block. -/
theorem resetGivesTheTabledValues : Obligations.ResetGivesTheTabledValues := by
  refine ⟨fun rate notices held pending => ?_, rfl⟩
  refine ⟨fun c => resetWith_chan _ _ _ _ c, fun n => resetWith_lineAt _ _ _ _ n, fun m => resetWith_comb _ _ _ _ m,
    fun k => resetWith_linkAt _ _ _ _ k, rfl, rfl, rfl, ⟨rfl, fun f => ?_, rfl, rfl, ?_, rfl, rfl, rfl⟩, rfl, rfl, rfl⟩
  · change (BitVec.allOnes 31).getLsbD f.number = true
    rw [BitVec.getLsbD_allOnes, decide_eq_true (flag_number_lt f)]
  · change ∀ i < 31, EventUnit.defaultAlertMask.getLsbD i = decide (11 ≤ i ∧ i ≤ 18)
    decide

end Sys2Proof.Machine
end

section
/-! PROOFS. What the work of a link engine is made of: writes of link records, of the remote request table and of channels, and raised flags. -/

namespace Sys2Proof.Machine

/-- A preorder on states that holds along every write that the work of a link engine is made of. -/
structure LinkWork (R : State → State → Prop) : Prop where
  refl : ∀ s, R s s
  trans : ∀ {s t u}, R s t → R t u → R s u
  modLink : ∀ k f s, R s (s.modLink k f)
  modRemote : ∀ f s, R s (s.modRemote f)
  raise : ∀ f d s, R s (s.raise f d)
  update : ∀ src c st v inc s, R s (s.update src c st v inc)

namespace LinkWork
variable {R : State → State → Prop} (w : LinkWork R)
include w

/-! ### Channels -/

theorem foldl {α : Type} (f : State → α → State) (hf : ∀ s a, R s (f s a)) (as : List α) (s : State) : R s (as.foldl f s) := by
  induction as generalizing s with
  | nil => exact w.refl s
  | cons a as ih => exact w.trans (hf s a) (ih _)

theorem updateBound (src : ChannelSource) (st : Validity) (v : Bool) (inc : Bool → Nat) (s : State) :
    R s (s.updateBound src st v inc) := by
  unfold State.updateBound
  split
  · exact w.refl s
  · exact w.update _ _ _ _ _ s

theorem staleImports (k : LinkId) (s : State) : R s (s.staleImports k) :=
  w.foldl (State.staleImport k) (fun t c => w.update (.link k) c .stale (t.chan c).value 0 t) _ s

theorem linkStatus (k : LinkId) (up : Bool) (s : State) : R s (s.linkStatus k up) := w.updateBound _ _ _ _ s

/-! ### Sessions -/

theorem leaveUp (k : LinkId) (move : Link → Link) (s : State) : R s (s.leaveUp k move) := by
  unfold State.leaveUp
  have moved := w.modLink k (fun l => move l.clearTransport) s
  have told (t : State) : R t ((t.staleImports k).linkStatus k false) := w.trans (w.staleImports k t) (w.linkStatus k false _)
  exact w.trans (w.trans moved (told _)) (w.trans (w.modRemote _ _) (w.modLink k _ _))

theorem enterFault (k : LinkId) (cause : FaultCause) (s : State) : R s (s.enterFault k cause) := by
  refine w.trans ?_ (w.raise _ _ _)
  split
  · exact w.leaveUp k _ s
  · exact w.modLink k _ s

theorem enterUp (k : LinkId) (s : State) : R s (s.enterUp k) :=
  w.trans (w.modLink k _ s) (w.trans (w.linkStatus k true _) (w.raise _ _ _))

theorem helloInSeeking (k : LinkId) (h : Hello) (s : State) : R s (s.helloInSeeking k h) := by
  unfold State.helloInSeeking
  split
  · exact w.refl s
  · refine w.trans (w.modLink k (Link.recordPeer h) s) ?_
    dsimp only
    split
    · exact w.enterFault k _ _
    · split
      · exact w.enterFault k _ _
      · split
        · exact w.enterUp k _
        · exact w.refl _

theorem helloInUp (k : LinkId) (h : Hello) (s : State) : R s (s.helloInUp k h) := by
  unfold State.helloInUp
  split
  · split
    · exact w.refl s
    · exact w.modLink k _ s
  · split
    · exact w.refl s
    · exact w.trans (w.leaveUp k _ s) (w.trans (w.raise _ _ _) (w.helloInSeeking k h _))

/-! ### Data frames -/

theorem stray (k : LinkId) (s : State) : R s (s.stray k) := w.trans (w.modLink k _ s) (w.raise _ _ _)

theorem takeRres (k : LinkId) (tag kind status : Byte) (data : List Byte) (s : State) :
    R s (s.takeRres k tag kind status data) := by
  have late (e : RemoteEntry) : R s ((s.modRemote (RemoteTable.lateAnswer e)).raise .lateReply 0) :=
    w.trans (w.modRemote _ s) (w.raise _ _ _)
  unfold State.takeRres
  split
  · exact w.stray k s
  · split
    · exact w.modRemote _ s
    · exact w.stray k s
    · split
      · exact late _
      · exact w.stray k s
    · exact late _

theorem takeRreq (k : LinkId) (tag kind : Byte) (body : List Byte) (s : State) : R s (s.takeRreq k tag kind body) := by
  unfold State.takeRreq
  split
  · exact w.modLink k _ s
  · exact w.stray k s
  · exact w.stray k s

theorem applyEntry (k : LinkId) (s : State) (e : ChangeEntry) : R s (s.applyEntry k e) := by
  unfold State.applyEntry
  split
  · exact w.update _ _ _ _ _ s
  · exact w.stray k s

theorem handOn (k : LinkId) (kind : DataKind) (body : List Byte) (s : State) : R s (s.handOn k kind body) := by
  unfold State.handOn
  split
  · exact w.foldl _ (w.applyEntry k) _ s
  · split
    · exact w.takeRreq k _ _ _ s
    · exact w.refl s
  · split
    · exact w.takeRres k _ _ _ _ s
    · exact w.refl s

theorem classify (k : LinkId) (kind : DataKind) (seq : Byte) (body : List Byte) (s : State) :
    R s (s.classify k kind seq body) := by
  unfold State.classify
  dsimp only
  split
  · exact w.trans (w.modLink k _ s) (w.handOn k kind body _)
  · split
    · exact w.modLink k _ s
    · exact w.modLink k _ s

/-! ### Received frames and timers -/

theorem handleInSeeking (k : LinkId) (f : LinkFrame) (s : State) : R s (s.handleInSeeking k f) := by
  unfold State.handleInSeeking
  split
  · split
    · exact w.helloInSeeking k _ s
    · exact w.refl s
  · exact w.refl s

theorem handleInUp (k : LinkId) (f : LinkFrame) (s : State) : R s (s.handleInUp k f) := by
  unfold State.handleInUp
  split
  · split
    · exact w.helloInUp k _ s
    · exact w.refl s
  · split
    · exact w.classify k _ _ _ s
    · exact w.refl s

theorem badFrame (k : LinkId) (s : State) : R s (s.badFrame k) := w.trans (w.modLink k _ s) (w.raise _ _ _)

theorem takeFrame (k : LinkId) (f : LinkFrame) (good : Bool) (s : State) : R s (s.takeFrame k f good) := by
  unfold State.takeFrame
  split
  · exact w.refl s
  · exact w.refl s
  · split
    · exact w.trans (w.modLink k _ s) (w.handleInSeeking k f _)
    · exact w.badFrame k s
  · split
    · exact w.trans (w.modLink k _ s) (w.handleInUp k f _)
    · exact w.badFrame k s

theorem linkByte (k : LinkId) (b : Byte) (s : State) : R s (s.linkByte k b) := by
  unfold State.linkByte
  dsimp only
  split
  · exact w.modLink k _ s
  · exact w.trans (w.modLink k _ s) (w.takeFrame k _ _ _)

theorem retransmitExpiry (k : LinkId) (s : State) : R s (s.retransmitExpiry k) := by
  unfold State.retransmitExpiry
  dsimp only
  split
  · exact w.trans (w.modLink k _ s) (w.enterFault k _ _)
  · exact w.trans (w.modLink k _ s) (w.modLink k _ _)

theorem silenceExpiry (k : LinkId) (s : State) : R s (s.silenceExpiry k) := w.trans (w.leaveUp k _ s) (w.raise _ _ _)

theorem entryTimeout (tag : Byte) (s : State) : R s (s.entryTimeout tag) := by
  unfold State.entryTimeout
  split
  · exact w.refl s
  · exact w.trans (w.modRemote _ s) (w.raise _ _ _)

end LinkWork

end Sys2Proof.Machine
end

section
/-! PROOFS. How a line record and a combiner record take a sample, an acceptance, an offer and new settings, and that each of these keeps the record's law (R26 to R28, R42, R43). -/

namespace Sys2Proof.Machine

/-! ### Samples -/

section
variable {l : Line} {level : Bool}

/-- R26: outside INPUT mode the debounced level follows the raw level. -/
theorem sample_outsideInput (other : l.mode ≠ .input) : l.sample level = { l with raw := level, debounced := level } := by
  simp [Line.sample, other]

/-- R27: a level that agrees with the debounced level abandons the interval. -/
theorem sample_agreeing (input : l.mode = .input) (agree : level = l.debounced) :
    l.sample level = { l with raw := level, interval := none } := by
  simp [Line.sample, input, agree]

/-- R29: with debounce 0 no interval starts. -/
theorem sample_undebounced (input : l.mode = .input) (differ : level ≠ l.debounced) (zero : l.debounce = 0) :
    l.sample level = { l with raw := level } := by
  simp [Line.sample, input, differ, zero]

/-- R28: a level that differs starts the interval, or lets it run on. -/
theorem sample_debounced (input : l.mode = .input) (differ : level ≠ l.debounced) (timed : l.debounce ≠ 0) :
    l.sample level = { l with raw := level, interval := some (l.interval.getD l.debounce.toNat) } := by
  simp only [Line.sample, input, differ, timed, if_true, if_false]

/-- R29: a sample is accepted at once where it differs and there is no debounce time. -/
theorem acceptsAtOnce_sample :
    (l.sample level).acceptsAtOnce = true ↔ l.mode = .input ∧ level ≠ l.debounced ∧ l.debounce = 0 := by
  by_cases input : l.mode = .input
  · by_cases agree : level = l.debounced
    · rw [sample_agreeing input agree]
      simp [Line.acceptsAtOnce, agree]
    · by_cases zero : l.debounce = 0
      · simp [sample_undebounced input agree zero, Line.acceptsAtOnce, input, agree, zero]
      · rw [sample_debounced input agree zero]
        simp only [Line.acceptsAtOnce, Bool.and_eq_true, beq_iff_eq, zero, and_false, false_and]
  · simp [sample_outsideInput input, Line.acceptsAtOnce, input]

end

/-- The later of two records that a line takes stands. -/
theorem setLine_setLine (n : LineId) (x y : Line) (s : State) : (s.setLine n x).setLine n y = s.setLine n y := by
  simp [State.setLine]

/-- R30: an accepted level is written, and the line gives its channel the value it then has. -/
theorem acceptEdge_eq (n : LineId) (s : State) :
    s.acceptEdge n =
      (s.setLine n (s.lineAt n).accept).updateBound (.line n) .valid ((s.lineAt n).raw ^^ (s.lineAt n).inverted) fun _ => 1 := rfl

/-- R29: the sample that is accepted in its own event. -/
theorem sampleLine_accepted {s : State} {n : LineId} {level : Bool} (input : (s.lineAt n).mode = .input)
    (differ : level ≠ (s.lineAt n).debounced) (zero : (s.lineAt n).debounce = 0) :
    s.sampleLine n level = State.acceptEdge n (s.setLine n { s.lineAt n with raw := level }) := by
  have sampled := sample_undebounced input differ zero
  have accepted : (s.lineAt n).sample level |>.acceptsAtOnce := acceptsAtOnce_sample.mpr ⟨input, differ, zero⟩
  simp only [State.sampleLine, State.lineAt_setLine, if_true, accepted]
  rw [sampled]

/-- R27, R28: every other sample writes the line's record alone. -/
theorem sampleLine_waits {s : State} {n : LineId} {level : Bool}
    (waits : ¬((s.lineAt n).mode = .input ∧ level ≠ (s.lineAt n).debounced ∧ (s.lineAt n).debounce = 0)) :
    s.sampleLine n level = s.setLine n ((s.lineAt n).sample level) := by
  simp only [State.sampleLine, State.lineAt_setLine, if_true, acceptsAtOnce_sample, waits, if_false]

/-! ### New settings -/

section
variable {l : Line} {chan : ChannelId → Channel} {st : LineSettings}

theorem configure_off (off : st.mode = .off) :
    l.configure chan st = { l.withSettings st with drive := .released, interval := none, debounced := l.raw } := by
  simp only [Line.configure, off]

/-- R37: a line kept in INPUT mode is re-taken. -/
theorem configure_keptInput (before : l.mode = .input) (after : st.mode = .input) :
    l.configure chan st = (l.withSettings st).retake := by
  simp only [Line.configure, before, after, if_true]

theorem configure_toInput (before : l.mode ≠ .input) (after : st.mode = .input) :
    l.configure chan st = { l.withSettings st with drive := .released, interval := none } := by
  simp only [Line.configure, before, after, if_false]

/-- R38: a line kept in OUTPUT mode is driven by its new settings. -/
theorem configure_keptOutput (before : l.mode = .output) (after : st.mode = .output) :
    l.configure chan st = (l.withSettings st).applyDriver chan := by
  simp only [Line.configure, before, after, if_true]

/-- R34: a line that enters OUTPUT mode takes its idle level before the driver rule. -/
theorem configure_toOutput (before : l.mode ≠ .output) (after : st.mode = .output) :
    l.configure chan st = Line.applyDriver chan
      { l.withSettings st with drive := Drive.ofLevel st.idle, interval := none, debounced := l.raw } := by
  simp only [Line.configure, before, after, if_false]

end

/-! ### The law of a line record -/

/-- A line with no interval and equal levels keeps the law if it drives its pin in OUTPUT mode alone. -/
theorem lineLaw_settled {l : Line} (released : l.mode ≠ .output → l.drive = .released) (stopped : l.interval = none)
    (agree : l.debounced = l.raw) : l.Law where
  released := released
  interval := by simp [stopped, agree]
  follows _ := agree

/-- R28: outside INPUT mode no interval runs. -/
theorem Line.Law.stopped {l : Line} (h : l.Law) (other : l.mode ≠ .input) : l.interval = none := by
  rw [← Option.not_isSome_iff_eq_none, h.interval]
  exact fun running => other running.1

theorem lineLaw_reset : Line.reset.Law := lineLaw_settled (fun _ => rfl) rfl rfl

theorem lineLaw_applyDriver {l : Line} (h : l.Law) (output : l.mode = .output) (chan : ChannelId → Channel) :
    (l.applyDriver chan).Law :=
  ⟨fun other => absurd output other, h.interval, h.follows⟩

/-- R39: a line in OUTPUT mode takes a manual value and is driven by it. -/
theorem lineLaw_driveManual {l : Line} (h : l.Law) (output : l.mode = .output) (v : Bool) (chan : ChannelId → Channel) :
    (Line.applyDriver chan { l with manual := v }).Law :=
  ⟨fun other => absurd output other, h.interval, h.follows⟩

/-- R32: an offer moves the drive of a line in OUTPUT mode alone. -/
theorem lineLaw_takeOffer {l : Line} (h : l.Law) (chan : ChannelId → Channel) (c : ChannelId) : (l.takeOffer chan c).Law := by
  unfold Line.takeOffer
  split
  · rename_i follows
    exact lineLaw_applyDriver h follows.1 chan
  · exact h

theorem lineLaw_pass {l : Line} (h : l.Law) : l.pass.Law :=
  ⟨h.released, by simpa [Line.pass, Timer.pass] using h.interval, h.follows⟩

theorem lineLaw_accept {l : Line} (released : l.mode ≠ .output → l.drive = .released) : l.accept.Law :=
  lineLaw_settled released rfl rfl

/-- R27, R28: a sample that is not accepted at once runs the interval exactly while the levels differ. -/
theorem lineLaw_sample {l : Line} (h : l.Law) {level : Bool}
    (waits : ¬(l.mode = .input ∧ level ≠ l.debounced ∧ l.debounce = 0)) : (l.sample level).Law := by
  by_cases input : l.mode = .input
  · by_cases agree : level = l.debounced
    · rw [sample_agreeing input agree]
      exact lineLaw_settled h.released rfl agree.symm
    · rw [sample_debounced input agree fun zero => waits ⟨input, agree, zero⟩]
      exact ⟨h.released, by simp [input, agree], fun other => absurd input other⟩
  · rw [sample_outsideInput input]
    exact lineLaw_settled h.released (h.stopped input) rfl

/-- R34, R37, R38: every change of mode leaves the drive RELEASED outside OUTPUT mode, no interval, and equal levels. -/
theorem lineLaw_configure {l : Line} (h : l.Law) (chan : ChannelId → Channel) (st : LineSettings) :
    (l.configure chan st).Law := by
  cases after : st.mode with
  | off =>
    rw [configure_off after]
    exact lineLaw_settled (fun _ => rfl) rfl rfl
  | input =>
    by_cases before : l.mode = .input
    · rw [configure_keptInput before after]
      exact lineLaw_settled (fun _ => h.released (by simp [before])) rfl rfl
    · rw [configure_toInput before after]
      exact lineLaw_settled (fun _ => rfl) rfl (h.follows before)
  | output =>
    have drives : (l.withSettings st).mode ≠ .output → (l.withSettings st).drive = .released := fun other => absurd after other
    by_cases before : l.mode = .output
    · rw [configure_keptOutput before after]
      have noInput : l.mode ≠ .input := by simp [before]
      exact lineLaw_applyDriver (lineLaw_settled drives (h.stopped noInput) (h.follows noInput)) after chan
    · rw [configure_toOutput before after]
      exact lineLaw_applyDriver (lineLaw_settled (fun other => absurd after other) rfl rfl) after chan

/-! ### The law of a combiner record -/

theorem combinerLaw_reset : Combiner.reset.Law := ⟨by decide, by decide, by decide, by decide, fun _ => rfl⟩

/-- An evaluation writes the output alone. -/
theorem combinerLaw_evaluate {cb : Combiner} (h : cb.Law) (chan : ChannelId → Channel) : (cb.evaluate chan).Law :=
  ⟨h.members, h.distinct, h.positive, h.bounded, h.empty⟩

theorem combinerLaw_takeOffer {cb : Combiner} (h : cb.Law) (chan : ChannelId → Channel) (c : ChannelId) :
    (cb.takeOffer chan c).Law := by
  unfold Combiner.takeOffer
  split
  · exact combinerLaw_evaluate h chan
  · exact h

/-- R51: each member of a list takes two bytes. -/
theorem length_of_membersOf {bytes : List Byte} {ms : List Member} (h : membersOf bytes = some ms) :
    bytes.length = 2 * ms.length := by
  induction bytes using membersOf.induct generalizing ms with
  | case1 => cases h; rfl
  | case2 c i rest _ _ ms' members invert channel ih =>
    simp only [membersOf, members, invert, channel, Option.some.injEq] at h
    subst h
    simp only [List.length_cons, ih members]
    omega
  | case3 c i rest bad ih =>
    unfold membersOf at h
    split at h
    · exact (bad _ _ _ ‹_› ‹_› ‹_›).elim
    · cases h
  | case4 => cases h

/-- R51 check 1: what the settings of a COMBINER_CONFIG keep to. -/
theorem of_combinerSettingsOf {threshold invert policy : Byte} {list : List Byte} {st : CombinerSettings}
    (h : combinerSettingsOf threshold invert policy list = some st) :
    list.length = 2 * st.members.length ∧ (st.members.map Member.channel).Nodup ∧
      (st.members ≠ [] → st.threshold ≠ 0 ∧ st.threshold.toNat ≤ st.members.length) := by
  unfold combinerSettingsOf at h
  split at h
  next i p ms _ _ named =>
    split_ifs at h with bad
    cases h
    simp only [not_or, not_and, not_not, not_lt] at bad
    exact ⟨length_of_membersOf named, bad.2, bad.1⟩
  next => cases h

/-- R42, R43: settings that pass the check, at most 16 members of them, give a lawful record. -/
theorem combinerLaw_withSettings {threshold invert policy : Byte} {list : List Byte} {st : CombinerSettings}
    (h : combinerSettingsOf threshold invert policy list = some st) (short : list.length ≤ 32) (cb : Combiner) :
    (cb.withSettings st).Law := by
  obtain ⟨length, distinct, fits⟩ := of_combinerSettingsOf h
  have members : st.members.length ≤ Config.memberCapacity := by
    simp only [Config.memberCapacity]
    omega
  by_cases empty : st.members = []
  · exact ⟨members, distinct, by simp [Combiner.withSettings, empty], fun some => absurd empty some,
      fun _ => by simp [Combiner.withSettings, empty]⟩
  · obtain ⟨nonzero, bounded⟩ := fits empty
    have positive : 1 ≤ st.threshold.toNat := by bv_omega
    exact ⟨members, distinct, by simpa [Combiner.withSettings, empty] using positive,
      fun _ => by simpa [Combiner.withSettings, empty] using bounded, fun none => absurd none empty⟩

end Sys2Proof.Machine
end

section
/-! PROOFS. Every step keeps the laws of line records and combiner records: O58. -/

namespace Sys2Proof.Machine

/-! ### Lawful records stay lawful -/

/-- Every line and every combiner whose record keeps its law in `s` keeps it in `t`. -/
structure State.KeepsRecords (s t : State) : Prop where
  lines : ∀ n, (s.lineAt n).Law → (t.lineAt n).Law
  combs : ∀ m, (s.comb m).Law → (t.comb m).Law

theorem keepsRecords_refl (s : State) : s.KeepsRecords s := ⟨fun _ h => h, fun _ h => h⟩

theorem keepsRecords_trans {s t u : State} (h : s.KeepsRecords t) (h' : t.KeepsRecords u) : s.KeepsRecords u :=
  ⟨fun n hn => h'.lines n (h.lines n hn), fun m hm => h'.combs m (h.combs m hm)⟩

/-- What writes neither lines nor combiners keeps their laws. -/
theorem keepsRecords_of_eq {s t : State} (lines : t.lines = s.lines) (combiners : t.combiners = s.combiners) : s.KeepsRecords t where
  lines n h := by rwa [show t.lineAt n = s.lineAt n from congrArg (·.get n) lines]
  combs m h := by rwa [show t.comb m = s.comb m from congrArg (·.get m) combiners]

theorem keepsRecords_setLine {s : State} {n : LineId} {x : Line} (h : (s.lineAt n).Law → x.Law) : s.KeepsRecords (s.setLine n x) where
  lines n' hn := by
    rw [State.lineAt_setLine]
    split
    · rename_i same
      exact h (same ▸ hn)
    · exact hn
  combs _ hm := hm

theorem keepsRecords_setComb {s : State} {m : CombinerId} {x : Combiner} (h : x.Law) : s.KeepsRecords (s.setComb m x) where
  lines _ hn := hn
  combs m' hm := by
    rw [State.comb_setComb]
    split
    · exact h
    · exact hm

theorem keepsRecords_resetWith (rate : UartRate) (notices : List Notice) (held : Bool) (pending : List Instr) (s : State) :
    s.KeepsRecords (State.resetWith rate notices held pending) where
  lines n _ := by rw [resetWith_lineAt]; exact lineLaw_reset
  combs m _ := by rw [resetWith_comb]; exact combinerLaw_reset

theorem keepsRecords_passTime (s : State) : s.KeepsRecords s.passTime where
  lines n h := by
    rw [show s.passTime.lineAt n = (s.lineAt n).pass by simp [State.passTime, State.lineAt]]
    exact lineLaw_pass h
  combs _ h := h

theorem keepsRecords_settle (s : State) : s.KeepsRecords s.settle := keepsRecords_of_eq (settle_lines s) (settle_combiners s)

/-! ### Channel changes -/

theorem keepsRecords_offer (c : ChannelId) (inc : Nat) (s : State) : s.KeepsRecords (s.offer c inc) where
  lines n h := by rw [offer_lineAt]; exact lineLaw_takeOffer h _ c
  combs m h := by rw [offer_comb]; exact h

theorem keepsRecords_writeChan (c : ChannelId) (st : Validity) (v : Bool) (inc : Nat) (s : State) :
    s.KeepsRecords (s.writeChan c st v inc) := keepsRecords_of_eq rfl rfl

theorem keepsRecords_evaluateCombiners (c : ChannelId) (s : State) : s.KeepsRecords (s.evaluateCombiners c) where
  lines _ h := h
  combs m h := by rw [evaluateCombiners_comb]; exact combinerLaw_takeOffer h _ c

theorem keepsRecords_changeConsequent (c : ChannelId) (st : Validity) (v : Bool) (inc : Nat) (s : State) :
    s.KeepsRecords (s.changeConsequent c st v inc) := by
  rw [changeConsequent_eq]
  split
  · exact keepsRecords_writeChan c st v inc s
  · exact keepsRecords_trans (keepsRecords_writeChan c st v inc s) (keepsRecords_offer c inc _)

theorem keepsRecords_giveCombinerUpdate (m : CombinerId) (before : Combiner) (s : State) :
    s.KeepsRecords (s.giveCombinerUpdate m before) := by
  unfold State.giveCombinerUpdate
  dsimp only
  split
  · exact keepsRecords_refl s
  · split
    · exact keepsRecords_refl s
    · exact keepsRecords_changeConsequent _ _ _ _ s

theorem keepsRecords_giveUpdates (ms : List CombinerId) (before : CombinerId → Combiner) (s : State) :
    s.KeepsRecords (ms.foldl (fun t m => t.giveCombinerUpdate m (before m)) s) := by
  induction ms generalizing s with
  | nil => exact keepsRecords_refl s
  | cons m ms ih => exact keepsRecords_trans (keepsRecords_giveCombinerUpdate m _ s) (ih _)

theorem keepsRecords_change (c : ChannelId) (st : Validity) (v : Bool) (inc : Nat) (s : State) :
    s.KeepsRecords (s.change c st v inc) := by
  rw [change_eq]
  split
  · exact keepsRecords_writeChan c st v inc s
  · have offered := keepsRecords_trans (keepsRecords_writeChan c st v inc s) (keepsRecords_offer c inc _)
    exact keepsRecords_trans offered
      (keepsRecords_trans (keepsRecords_evaluateCombiners c _) (keepsRecords_giveUpdates allCombiners _ _))

theorem keepsRecords_update (src : ChannelSource) (c : ChannelId) (st : Validity) (v : Bool) (inc : Nat) (s : State) :
    s.KeepsRecords (s.update src c st v inc) := by
  unfold State.update
  split
  · exact keepsRecords_change c st v inc s
  · exact keepsRecords_refl s

theorem keepsRecords_raise (f : Flag) (d : Byte) (s : State) : s.KeepsRecords (s.raise f d) := by
  obtain ⟨_, _, _, _, h⟩ := raise_only f d s
  rw [h]
  exact keepsRecords_of_eq rfl rfl

/-- R13, R15: a channel takes or leaves its source, and an update. -/
theorem keepsRecords_sourced (c : ChannelId) (x : Channel) (st : Validity) (v : Bool) (inc : Nat) (s : State) :
    s.KeepsRecords (State.change c st v inc (s.setChan c x)) := by
  have sourced : s.KeepsRecords (s.setChan c x) := keepsRecords_of_eq rfl rfl
  exact keepsRecords_trans sourced (keepsRecords_change c st v inc _)

theorem keepsRecords_unbind (c : ChannelId) (s : State) : s.KeepsRecords (s.unbind c) := by
  unfold State.unbind
  split
  · exact keepsRecords_refl s
  · exact keepsRecords_sourced _ _ _ _ _ s

/-- The work of a link engine keeps the laws, since each write that it is made of does. -/
theorem linkWork_keepsRecords : LinkWork State.KeepsRecords where
  refl := keepsRecords_refl
  trans := keepsRecords_trans
  modLink _ _ _ := keepsRecords_of_eq rfl rfl
  modRemote _ _ := keepsRecords_of_eq rfl rfl
  raise := keepsRecords_raise
  update := keepsRecords_update

/-! ### The line bank -/

/-- A line takes a lawful record and gives its channel a value. -/
theorem keepsRecords_lineUpdate {s : State} {n : LineId} {x : Line} (h : (s.lineAt n).Law → x.Law) (v : Bool) (inc : Bool → Nat) :
    s.KeepsRecords ((s.setLine n x).updateBound (.line n) .valid v inc) :=
  keepsRecords_trans (keepsRecords_setLine h) (linkWork_keepsRecords.updateBound _ _ _ _ _)

theorem keepsRecords_acceptEdge (n : LineId) (s : State) : s.KeepsRecords (s.acceptEdge n) := by
  rw [acceptEdge_eq]
  exact keepsRecords_lineUpdate (fun h => lineLaw_accept h.released) _ _

theorem keepsRecords_sampleLine (n : LineId) (level : Bool) (s : State) : s.KeepsRecords (s.sampleLine n level) := by
  by_cases now : (s.lineAt n).mode = .input ∧ level ≠ (s.lineAt n).debounced ∧ (s.lineAt n).debounce = 0
  · obtain ⟨input, differ, zero⟩ := now
    rw [sampleLine_accepted input differ zero, acceptEdge_eq, setLine_setLine]
    refine keepsRecords_lineUpdate (fun h => lineLaw_accept ?_) _ _
    rw [State.lineAt_setLine, if_pos rfl]
    exact h.released
  · rw [sampleLine_waits now]
    exact keepsRecords_setLine fun h => lineLaw_sample h now

theorem keepsRecords_configureLine (n : LineId) (st : LineSettings) (s : State) : s.KeepsRecords (s.configureLine n st) := by
  unfold State.configureLine
  dsimp only
  split
  · exact keepsRecords_lineUpdate (fun h => lineLaw_configure h _ st) _ _
  · exact keepsRecords_setLine fun h => lineLaw_configure h _ st

/-! ### The rules of the requests -/

/-- A rule keeps the laws where it carries out a request of a length that R199 allows. -/
def RequestRule.KeepsRecords (serves : HostFrame → Bool) (rule : RequestRule) : Prop :=
  ∀ req s t data, serves req = true → lengthFits req.kind req.body = true → rule req.body s = .ok (t, data) → s.KeepsRecords t

/-- The rules that write neither lines nor combiners, nor change a channel: each reports, or writes one other block. -/
def bankFreeRules : List RequestRule :=
  [identifyRule, statusRule, resetRule, setNodeRule, channelWatchRule, channelReadRule, lineReadRule, combinerReadRule,
    linkConfigRule, linkPolicyRule, linkStatusRule, linkExportRule, linkStatsRule, remoteSendRule, eventsReadRule,
    eventsClearRule, noticeConfigRule, alertConfigRule, hostStatsRule]

/-- A rule of that list that carries its request out has the banks in every branch as it found them. -/
theorem bankFreeRules_leave {rule : RequestRule} (mem : rule ∈ bankFreeRules) {body : List Byte} {s t : State} {data : List Byte}
    (ht : rule body s = .ok (t, data)) : t.lines = s.lines ∧ t.combiners = s.combiners := by
  simp only [bankFreeRules, List.mem_cons, List.not_mem_nil, or_false] at mem
  rcases mem with rfl | rfl | rfl | rfl | rfl | rfl | rfl | rfl | rfl | rfl | rfl | rfl | rfl | rfl | rfl | rfl | rfl | rfl | rfl
  all_goals
    simp only [identifyRule, statusRule, resetRule, setNodeRule, channelWatchRule, channelReadRule, lineReadRule, combinerReadRule,
      linkConfigRule, linkPolicyRule, linkStatusRule, linkExportRule, linkStatsRule, remoteSendRule, eventsReadRule,
      eventsClearRule, noticeConfigRule, alertConfigRule, hostStatsRule] at ht
    repeat' split at ht
    all_goals cases ht
    all_goals exact ⟨rfl, rfl⟩

theorem bankFreeRules_keepRecords {rule : RequestRule} (mem : rule ∈ bankFreeRules) (serves : HostFrame → Bool) :
    rule.KeepsRecords serves := fun _ _ _ _ _ _ ht =>
  have ⟨lines, combiners⟩ := bankFreeRules_leave mem ht
  keepsRecords_of_eq lines combiners

theorem channelBindRule_keepsRecords (serves : HostFrame → Bool) : RequestRule.KeepsRecords serves channelBindRule := by
  intro req s t data _ _ ht
  unfold channelBindRule at ht
  repeat' split at ht
  all_goals cases ht
  exact keepsRecords_sourced _ _ _ _ _ _

theorem channelUnbindRule_keepsRecords (serves : HostFrame → Bool) : RequestRule.KeepsRecords serves channelUnbindRule := by
  intro req s t data _ _ ht
  unfold channelUnbindRule at ht
  repeat' split at ht
  all_goals cases ht
  exact keepsRecords_unbind _ _

theorem channelSetRule_keepsRecords (serves : HostFrame → Bool) {effect : ChannelId → State → State}
    (keeps : ∀ c (s : State), s.KeepsRecords (effect c s)) : RequestRule.KeepsRecords serves (channelSetRule effect) := by
  intro req s t data _ _ ht
  unfold channelSetRule at ht
  repeat' split at ht
  all_goals cases ht
  exact keeps _ _

theorem lineConfigRule_keepsRecords (serves : HostFrame → Bool) : RequestRule.KeepsRecords serves lineConfigRule := by
  intro req s t data _ _ ht
  unfold lineConfigRule at ht
  repeat' split at ht
  all_goals cases ht
  exact keepsRecords_configureLine _ _ _

/-- R39: LINE_SET drives a line in OUTPUT mode. -/
theorem lineSetRule_keepsRecords (serves : HostFrame → Bool) : RequestRule.KeepsRecords serves lineSetRule := by
  intro req s t data _ _ ht
  unfold lineSetRule at ht
  repeat' split at ht
  all_goals cases ht
  rename_i allowed
  exact keepsRecords_setLine fun h => lineLaw_driveManual h allowed.1 _ _

/-- R199: the member list of a COMBINER_CONFIG takes at most 32 bytes. -/
theorem memberBytes_le {m threshold invert policy count : Byte} {list : List Byte}
    (fits : lengthFits 0x0D (m :: threshold :: invert :: policy :: count :: list) = true) : list.length ≤ 32 := by
  simp [lengthFits] at fits
  omega

theorem combinerConfigRule_keepsRecords : RequestRule.KeepsRecords (ofKind 0x0D) combinerConfigRule := by
  intro req s t data served fits ht
  rw [show req.kind = 0x0D by simpa [ofKind] using served] at fits
  unfold combinerConfigRule at ht
  split at ht
  · rename_i body
    split at ht
    · rename_i settings
      split at ht
      · cases ht
      · cases ht
        have law := combinerLaw_withSettings settings (memberBytes_le (body ▸ fits))
        exact keepsRecords_trans (keepsRecords_setComb (combinerLaw_evaluate (law _) _))
          (keepsRecords_giveCombinerUpdate _ _ _)
    · cases ht
  · cases ht

theorem linkControlRule_keepsRecords (serves : HostFrame → Bool) {act : LinkId → State → Except Status State}
    (keeps : ∀ k s t, act k s = .ok t → s.KeepsRecords t) : RequestRule.KeepsRecords serves (linkControlRule act) := by
  intro req s t data _ _ ht
  unfold linkControlRule at ht
  split at ht
  · split at ht
    · generalize acted : act _ _ = verdict at ht
      cases verdict with
      | error e => cases ht
      | ok u => cases ht; exact keeps _ _ _ acted
    · cases ht
  · cases ht

theorem enableLink_keepsRecords (k : LinkId) (s t : State) (ht : enableLink k s = .ok t) : s.KeepsRecords t := by
  unfold enableLink at ht
  repeat' split at ht
  all_goals cases ht
  exact linkWork_keepsRecords.modLink k _ s

theorem disableLink_keepsRecords (k : LinkId) (s t : State) (ht : disableLink k s = .ok t) : s.KeepsRecords t := by
  unfold disableLink at ht
  split at ht <;> obtain rfl := Except.ok.inj ht
  · exact keepsRecords_refl s
  · exact linkWork_keepsRecords.leaveUp k _ s
  · exact linkWork_keepsRecords.modLink k _ s

theorem restartLink_keepsRecords (k : LinkId) (s t : State) (ht : restartLink k s = .ok t) : s.KeepsRecords t := by
  unfold restartLink at ht
  split at ht
  · cases ht
  all_goals obtain rfl := Except.ok.inj ht
  · exact linkWork_keepsRecords.leaveUp k _ s
  · exact linkWork_keepsRecords.modLink k _ s

/-! ### Events, requests, steps -/

theorem event_keepsRecords {occurs : Bool} {effect : State → State} {s t : State} (keeps : s.KeepsRecords (effect s))
    (ht : event occurs effect s = .next t) : s.KeepsRecords t := by
  rcases event_cases occurs effect s with idle | ⟨-, -, taken⟩
  · rw [idle] at ht
    cases ht
    exact keepsRecords_refl s
  · rw [taken] at ht
    cases ht
    exact keepsRecords_trans keeps (keepsRecords_settle _)

theorem request_keepsRecords {serves : HostFrame → Bool} {rule : RequestRule} {s t : State} (keeps : rule.KeepsRecords serves)
    (ht : request serves rule s = .next t) : s.KeepsRecords t := by
  have answered (g : Grant) (status : Status) (data : List Byte) (u : State) : u.KeepsRecords (u.answer g status data) := by
    obtain ⟨_, _, h⟩ := answer_only g status data u
    rw [h]
    exact keepsRecords_of_eq rfl rfl
  rcases request_cases serves rule s with idle | ⟨g, -, -, served, granted⟩
  · rw [idle] at ht
    cases ht
    exact keepsRecords_refl s
  · rw [granted] at ht
    cases ht
    obtain ⟨-, lines, combiners, -⟩ := takeGrant_records g s
    refine keepsRecords_trans (keepsRecords_trans (keepsRecords_of_eq lines combiners) ?_) (keepsRecords_settle _)
    rcases execute_cases g rule s with ⟨u, data, judged, acted⟩ | ⟨status, -, refused⟩
    · rw [acted]
      refine keepsRecords_trans ?_ (answered _ _ _ _)
      rcases judge_cases g rule (s.takeGrant g) with e | e | e | ⟨-, fits, -, e⟩ <;> rw [e] at judged
      · cases judged
      · cases judged
      · cases judged
      · exact keeps _ _ _ _ served fits judged
    · rw [refused]
      exact answered _ _ _ _

/-- A request row whose rule writes neither bank. -/
theorem request_leavesRecords {serves : HostFrame → Bool} {rule : RequestRule} {s t : State}
    (ht : request serves rule s = .next t) (mem : rule ∈ bankFreeRules := by simp [bankFreeRules]) : s.KeepsRecords t :=
  request_keepsRecords (bankFreeRules_keepRecords mem serves) ht

theorem keepsRecords_hostByte (b : Byte) (s : State) : s.KeepsRecords (s.hostByte b) := by
  obtain ⟨_, _, _, _, _, h⟩ := hostByte_only b s
  rw [h]
  exact keepsRecords_of_eq rfl rfl

theorem keepsRecords_framingError (s : State) : s.KeepsRecords s.framingError := by
  obtain ⟨_, _, _, _, _, h⟩ := framingError_only s
  rw [h]
  exact keepsRecords_of_eq rfl rfl

theorem keepsRecords_hostTxEnd (s : State) : s.KeepsRecords s.hostTxEnd := by
  unfold State.hostTxEnd
  dsimp only
  split
  · exact keepsRecords_resetWith _ _ _ _ s
  · exact keepsRecords_of_eq rfl rfl

/-- Every command keeps the laws of lines and combiners. -/
theorem exec_keepsRecords (i : Instr) {s t : State} (ht : exec i s = .next t) : s.KeepsRecords t := by
  have work := linkWork_keepsRecords
  cases i with
  | powerResetEntry => cases ht; exact keepsRecords_resetWith _ _ _ _ s
  | powerResetExit rate1 rate0 =>
    cases ht
    exact keepsRecords_trans (keepsRecords_resetWith _ _ _ _ s) (keepsRecords_settle _)
  | lineSample n level => exact event_keepsRecords (keepsRecords_sampleLine n level s) ht
  | debounceExpiry n => exact event_keepsRecords (keepsRecords_acceptEdge n s) ht
  | hostFrameReceived b => exact event_keepsRecords (keepsRecords_hostByte b s) ht
  | hostBadLength b => exact event_keepsRecords (keepsRecords_hostByte b s) ht
  | hostByteReceived b => exact event_keepsRecords (keepsRecords_hostByte b s) ht
  | hostGapTimerExpiry => exact event_keepsRecords (keepsRecords_framingError s) ht
  | hostCharacterError => exact event_keepsRecords (keepsRecords_framingError s) ht
  | hostTxEnd => exact event_keepsRecords (keepsRecords_hostTxEnd s) ht
  | unknownKindRequest =>
    exact request_keepsRecords (serves := fun r => !isRequestKind r.kind) (rule := unknownKindRule) (fun _ _ _ _ _ _ h => nomatch h) ht
  | identify => exact request_leavesRecords ht
  | status => exact request_leavesRecords ht
  | reset => exact request_leavesRecords ht
  | setNode => exact request_leavesRecords ht
  | channelBind => exact request_keepsRecords (channelBindRule_keepsRecords _) ht
  | channelUnbind => exact request_keepsRecords (channelUnbindRule_keepsRecords _) ht
  | channelSetDrive0 => exact request_keepsRecords (channelSetRule_keepsRecords _ fun _ _ => keepsRecords_update _ _ _ _ _ _) ht
  | channelSetDrive1 => exact request_keepsRecords (channelSetRule_keepsRecords _ fun _ _ => keepsRecords_update _ _ _ _ _ _) ht
  | channelSetPulse => exact request_keepsRecords (channelSetRule_keepsRecords _ fun _ _ => keepsRecords_update _ _ _ _ _ _) ht
  | channelSetWithdraw => exact request_keepsRecords (channelSetRule_keepsRecords _ fun _ _ => keepsRecords_update _ _ _ _ _ _) ht
  | channelWatch => exact request_leavesRecords ht
  | channelRead => exact request_leavesRecords ht
  | lineConfig => exact request_keepsRecords (lineConfigRule_keepsRecords _) ht
  | lineSet => exact request_keepsRecords (lineSetRule_keepsRecords _) ht
  | lineRead => exact request_leavesRecords ht
  | combinerConfig => exact request_keepsRecords combinerConfigRule_keepsRecords ht
  | combinerRead => exact request_leavesRecords ht
  | linkControlEnable => exact request_keepsRecords (linkControlRule_keepsRecords _ enableLink_keepsRecords) ht
  | linkControlDisable => exact request_keepsRecords (linkControlRule_keepsRecords _ disableLink_keepsRecords) ht
  | linkControlRestart => exact request_keepsRecords (linkControlRule_keepsRecords _ restartLink_keepsRecords) ht
  | linkConfig => exact request_leavesRecords ht
  | linkPolicy => exact request_leavesRecords ht
  | linkStatus => exact request_leavesRecords ht
  | linkExport => exact request_leavesRecords ht
  | linkStats => exact request_leavesRecords ht
  | remoteSend => exact request_leavesRecords ht
  | eventsRead => exact request_leavesRecords ht
  | eventsClear => exact request_leavesRecords ht
  | noticeConfig => exact request_leavesRecords ht
  | alertConfig => exact request_leavesRecords ht
  | hostStats => exact request_leavesRecords ht
  | linkFrameReceived k b => exact event_keepsRecords (work.linkByte k b s) ht
  | linkByteReceived k b => exact event_keepsRecords (work.linkByte k b s) ht
  | linkFramerGapExpiry k => exact event_keepsRecords (work.modLink k _ s) ht
  | helloTimerExpiry k => exact event_keepsRecords (work.modLink k _ s) ht
  | keepaliveTimerExpiry k => exact event_keepsRecords (work.modLink k _ s) ht
  | silenceTimerExpiry k => exact event_keepsRecords (work.silenceExpiry k s) ht
  | holdOffExpiry k => exact event_keepsRecords (work.modLink k _ s) ht
  | retransmitTimerExpiry k => exact event_keepsRecords (work.retransmitExpiry k s) ht
  | ackTimerExpiry k => exact event_keepsRecords (work.modLink k _ s) ht
  | linkTxEnd k => exact event_keepsRecords (work.modLink k _ s) ht
  | remoteEntryTimeout tag => exact event_keepsRecords (work.entryTimeout tag s) ht

theorem keepsRecords_idle (s : State) : s.KeepsRecords s.idle := by
  unfold State.idle
  split
  · exact keepsRecords_refl s
  · exact keepsRecords_trans (keepsRecords_settle s) (keepsRecords_passTime _)

theorem step_keepsRecords {s t : State} (ht : step s = .next t) : s.KeepsRecords t := by
  unfold step at ht
  split at ht
  · cases ht
    exact keepsRecords_idle s
  · rename_i rest _
    have popped : s.KeepsRecords { s with pending := rest } := keepsRecords_of_eq rfl rfl
    exact keepsRecords_trans popped (exec_keepsRecords _ ht)

/-- Settles O58: each command writes records by samples, acceptances, offers and settings, which keep the laws record by record. -/
theorem everyStepKeepsLineAndCombinerLaws : Obligations.EveryStepKeepsLineAndCombinerLaws := by
  intro s t lines combs ht
  have keeps := step_keepsRecords ht
  exact ⟨fun n => keeps.lines n (lines n), fun m => keeps.combs m (combs m)⟩

end Sys2Proof.Machine
end

section
/-! PROOFS. The statements about local lines: O25, O26, O27, O28. -/

namespace Sys2Proof.Machine

/-! ### Samples and expiries -/

/-- Settles O25: a sample by mode, level and debounce time, and an expiry by what is left in the interval. -/
theorem sampleAndDebounceExpiry : Obligations.SampleAndDebounceExpiry := by
  refine ⟨fun n level s running => ?_, fun n s running => ⟨fun waits => ?_, fun out => ?_⟩⟩
  · rw [exec, execLineSample, event_occurs running]
    congr 2
    dsimp only
    by_cases input : (s.lineAt n).mode = .input
    · rw [if_neg (not_not.mpr input)]
      by_cases agree : level = (s.lineAt n).debounced
      · rw [if_pos agree, sampleLine_waits fun now => now.2.1 agree, sample_agreeing input agree]
      · rw [if_neg agree]
        by_cases zero : (s.lineAt n).debounce = 0
        · rw [if_pos zero, sampleLine_accepted input agree zero, acceptEdge_eq, setLine_setLine, State.lineAt_setLine, if_pos rfl]
          rfl
        · rw [if_neg zero, sampleLine_waits fun now => zero now.2.2, sample_debounced input agree zero]
    · rw [if_pos input, sampleLine_waits fun now => input now.1, sample_outsideInput input]
  · exact expiry_waits _ s waits
  · rw [exec, execDebounceExpiry, out, expiry_ranOut running]
    rfl

/-! ### The driver rule and the pin -/

section
variable {l : Line} {chan : ChannelId → Channel}

/-- R31: a manual line drives its manual value. -/
theorem driverRule_manual (manual : l.driver = .manual) : l.driverRule chan = Drive.ofLevel (l.manual ^^ l.inverted) := by
  simp only [Line.driverRule, manual]

/-- R31: a line drives the value of its channel while that is VALID. -/
theorem driverRule_valid {c : ChannelId} (driver : l.driver = .channel c) (valid : (chan c).state = .valid) :
    l.driverRule chan = Drive.ofLevel ((chan c).value ^^ l.inverted) := by
  simp only [Line.driverRule, driver, valid, if_true]

/-- R39: a manual line that takes a manual value drives that value. -/
theorem applyDriver_manual (manual : l.driver = .manual) (v : Bool) :
    Line.applyDriver chan { l with manual := v } = { l with manual := v, drive := Drive.ofLevel (v ^^ l.inverted) } := by
  rw [Line.applyDriver, driverRule_manual (l := { l with manual := v }) manual]

/-- R33: a line takes its stale action while its channel is not VALID. -/
theorem driverRule_stale {c : ChannelId} (driver : l.driver = .channel c) (stale : (chan c).state ≠ .valid) :
    l.driverRule chan = l.staleDrive := by
  simp only [Line.driverRule, driver, stale, if_false]

theorem pin_off (off : l.mode = .off) : l.pin = .highImpedance .none := by simp only [Line.pin, off]

/-- R35: outside OFF mode the pin follows the drive, and the output type where that is 1. -/
theorem pin_on (on : l.mode ≠ .off) :
    l.pin = match l.drive, l.output with
      | .released, _ => .highImpedance l.pull
      | .driving0, _ => .drivenLow
      | .driving1, .pushPull => .drivenHigh
      | .driving1, .openDrain => .highImpedance l.pull := by
  unfold Line.pin
  cases mode : l.mode with
  | off => exact absurd mode on
  | input => cases l.drive <;> cases l.output <;> rfl
  | output => cases l.drive <;> cases l.output <;> rfl

end

/-- Settles O26: the rule by driver, channel state and stale action; the pin by mode, drive and output type. -/
theorem driverRuleAndPin : Obligations.DriverRuleAndPin := by
  refine ⟨fun chan l => ⟨driverRule_manual, fun c driver => ⟨driverRule_valid driver, fun stale => ?_⟩⟩,
    fun l => ⟨pin_off, fun on => ?_⟩⟩
  · rw [driverRule_stale driver stale]
    refine ⟨fun action => ?_, fun action => ?_, fun action => ?_, fun action => ?_⟩ <;> simp only [Line.staleDrive, action]
  · rw [pin_on on]
    refine ⟨fun drive => ?_, fun drive => ?_, fun drive output => ?_, fun drive output => ?_⟩
    · rw [drive]
    · rw [drive]
    · rw [drive, output]
    · rw [drive, output]

/-! ### LINE_CONFIG -/

/-- R37: a LINE_CONFIG that keeps a line in INPUT mode re-takes it and updates its channel. -/
theorem configureLine_keptInput {s : State} {n : LineId} {st : LineSettings} (before : (s.lineAt n).mode = .input)
    (after : st.mode = .input) :
    s.configureLine n st =
      (s.setLine n ((s.lineAt n).withSettings st).retake).updateBound (.line n) .valid ((s.lineAt n).raw ^^ st.inverted)
        (edgeIf ((s.lineAt n).raw ^^ st.inverted)) := by
  simp only [State.configureLine, configure_keptInput before after, before, after, and_self, if_true]
  rfl

/-- Every other LINE_CONFIG writes the line's record alone. -/
theorem configureLine_moved {s : State} {n : LineId} {st : LineSettings}
    (moved : ¬((s.lineAt n).mode = .input ∧ st.mode = .input)) :
    s.configureLine n st = s.setLine n ((s.lineAt n).configure s.chan st) := by
  simp only [State.configureLine, moved, if_false]

/-- R37 step 2: the re-take counts an edge where the raw level differs from the debounced level. -/
theorem retake_eq (l : Line) :
    l.retake = { l with interval := none, debounced := l.raw, edges := l.edges + (if l.raw = l.debounced then 0 else 1) } := by
  unfold Line.retake edgeIf
  split <;> rfl

/-- Settles O27: the checks in order, then the line's record by the mode it leaves and the mode it enters. -/
theorem lineConfigActsByModeChange : Obligations.LineConfigActsByModeChange := by
  intro s g nb mode pull polarity debounce output idle driver stale manual h
  rw [exec, execLineConfig, request_of_grants h (ofKind_of_grants h) rfl rfl, lineConfigRule]
  congr 1
  cases lineOf nb with
  | none => rfl
  | some n =>
    cases lineSettingsOf mode pull polarity debounce output idle driver stale manual with
    | none => rfl
    | some st =>
      simp only [boundTo_isSome, takeGrant_chan]
      by_cases conflict : (∃ c, (s.chan c).source = .line n) ∧ st.mode ≠ .input
      · rw [if_pos conflict, if_pos conflict]
        rfl
      rw [if_neg conflict, if_neg conflict, conclude_ok]
      congr 1
      have line : (s.takeGrant g).lineAt n = s.lineAt n := takeGrant_lineAt g s n
      have chan : (s.takeGrant g).chan = s.chan := funext (takeGrant_chan g s)
      split
      next before after =>
        rw [configureLine_keptInput (by rw [line, before]) after, line, retake_eq]
        rfl
      next after before =>
        rw [configureLine_moved fun kept => before (line ▸ kept.1), line, configure_toInput before after]
        rfl
      next after =>
        rw [configureLine_moved (fun kept => nomatch after.symm.trans kept.2), line, configure_off after]
        rfl
      next before after =>
        rw [configureLine_moved (fun kept => nomatch after.symm.trans kept.2), line, chan, configure_keptOutput before after]
        rfl
      next after before =>
        rw [configureLine_moved (fun kept => nomatch after.symm.trans kept.2), line, chan, configure_toOutput before after]
        rfl

/-! ### LINE_SET -/

/-- Settles O28: the checks in order, then the manual value and the drive that follows from it. -/
theorem lineSetDrivesManualOutputs : Obligations.LineSetDrivesManualOutputs := by
  intro s g nb v h
  rw [exec, execLineSet, request_of_grants h (ofKind_of_grants h) rfl rfl, lineSetRule, boolOf_eq]
  congr 1
  cases lineOf nb with
  | none => rfl
  | some n =>
    by_cases bad : 2 ≤ v.toNat
    · simp only [bad, if_true, conclude_error]
    · simp only [bad, if_false, takeGrant_lineAt]
      by_cases manual : (s.lineAt n).mode = .output ∧ (s.lineAt n).driver = .manual
      · rw [if_pos manual, if_pos manual, conclude_ok, applyDriver_manual manual.2]
        rfl
      · rw [if_neg manual, if_neg manual, conclude_error]

end Sys2Proof.Machine
end

section
/-! PROOFS. The statements about combiners: evaluations, the two requests, the settings that a COMBINER_CONFIG names, and the update that an evaluation gives: O29, O30. -/

namespace Sys2Proof.Machine

/-! ### Evaluations -/

section
variable {chan : ChannelId → Channel} {cb : Combiner} {mb : Member} {policy : StalePolicy}

/-- R44: a VALID channel gives its value, under every policy. -/
theorem input_valid (valid : (chan mb.channel).state = .valid) :
    mb.input policy chan = ((chan mb.channel).value ^^ mb.invert) := if_pos valid

/-- R44: the policy decides what a channel that is not VALID gives. -/
theorem input_notValid (stale : (chan mb.channel).state ≠ .valid) :
    mb.input policy chan = match policy with
      | .assert => true
      | .deassert => false
      | .hold | .propagate => (chan mb.channel).value ^^ mb.invert := by
  refine (if_neg stale).trans ?_
  cases policy <;> rfl

theorem result_empty (empty : cb.members = []) : cb.result chan = false := if_pos empty

/-- R45: with members, the inputs at 1 are counted against the threshold. -/
theorem result_members (members : cb.members ≠ []) :
    cb.result chan =
      (decide (cb.threshold ≤ (cb.members.filter fun mb => mb.input cb.policy chan).length) ^^ cb.outInvert) := by
  rw [Combiner.result, if_neg members, Combiner.inputsAt1, List.countP_eq_length_filter]

/-- R45: the output value is a function of the inputs. -/
theorem result_congr {chan' : ChannelId → Channel}
    (inputs : ∀ mb ∈ cb.members, mb.input cb.policy chan = mb.input cb.policy chan') : cb.result chan = cb.result chan' := by
  have count : cb.inputsAt1 chan = cb.inputsAt1 chan' := List.countP_congr fun mb hmb => by rw [inputs mb hmb]
  rw [Combiner.result, Combiner.result, count]

theorem notValid_pos : 0 < cb.notValid chan ↔ ∃ mb ∈ cb.members, (chan mb.channel).state ≠ .valid := by
  simp [Combiner.notValid, List.countP_pos_iff]

theorem resultValid_empty (empty : cb.members = []) : cb.resultValid chan = false := if_pos empty

/-- R46: with members, only PROPAGATE with a member that is not VALID makes the output not valid. -/
theorem resultValid_members (members : cb.members ≠ []) :
    cb.resultValid chan = false ↔ cb.policy = .propagate ∧ ∃ mb ∈ cb.members, (chan mb.channel).state ≠ .valid := by
  rw [← notValid_pos, Combiner.resultValid, if_neg members]
  simp

theorem outState_empty (empty : cb.members = []) : cb.outState = .unknown := if_pos empty

theorem outState_members (members : cb.members ≠ []) : cb.outState = if cb.outValid then .valid else .stale := if_neg members

end

/-- Settles O29: the input by channel state and policy, the value by the member count, the valid bit by member count, policy and
channel states. -/
theorem combinerEvaluation : Obligations.CombinerEvaluation := by
  refine ⟨fun policy chan mb => ⟨input_valid, fun stale => ?_⟩,
    ⟨fun chan cb => ⟨result_members, result_empty⟩, fun chan chan' cb => result_congr⟩, fun chan cb => ?_⟩
  · rw [input_notValid stale]
    refine ⟨?_, ?_, ?_, ?_⟩ <;> rintro rfl <;> rfl
  · refine ⟨fun empty => ⟨resultValid_empty empty, outState_empty empty⟩, fun propagate stale => ?_, fun members passes => ?_, rfl⟩
    · have members : cb.members ≠ [] := List.ne_nil_of_mem stale.choose_spec.1
      have invalid : (cb.evaluate chan).outValid = false := (resultValid_members members).mpr ⟨propagate, stale⟩
      exact ⟨invalid, by rw [outState_members (cb := cb.evaluate chan) members, invalid]; rfl⟩
    · have valid : (cb.evaluate chan).outValid = true := by
        refine Bool.eq_true_of_not_eq_false fun invalid => ?_
        obtain ⟨propagate, mb, mem, stale⟩ := (resultValid_members members).mp invalid
        exact passes.elim (· propagate) fun all => stale (all mb mem)
      exact ⟨valid, by rw [outState_members (cb := cb.evaluate chan) members, valid]; rfl⟩

/-! ### The settings that a COMBINER_CONFIG names -/

theorem byteOfNat_of_indexOf {n : Nat} {b : Byte} {i : Fin n} (h : indexOf n b = some i) : byteOfNat i = b := by
  unfold indexOf at h
  split at h <;> cases h
  simp [byteOfNat]

theorem stalePolicyOf_eq_none {b : Byte} : stalePolicyOf b = none ↔ 3 < b.toNat := by
  unfold stalePolicyOf
  split <;> simp_all
  omega

theorem code_of_stalePolicyOf {b : Byte} {p : StalePolicy} (h : stalePolicyOf b = some p) : p.code = b := by
  unfold stalePolicyOf at h
  split at h <;> cases h <;> exact (BitVec.eq_of_toNat_eq ‹_›).symm

/-- The bytes of a member list, from the two of each member. -/
def memberBytes (pairs : List (Byte × Byte)) : List Byte := pairs.flatMap fun p => [p.1, p.2]

@[simp] theorem memberBytes_nil : memberBytes [] = [] := rfl

@[simp] theorem memberBytes_cons (c i : Byte) (pairs : List (Byte × Byte)) :
    memberBytes ((c, i) :: pairs) = c :: i :: memberBytes pairs := rfl

/-- R51 check 1: a member list names members unless a channel or an invert names nothing. -/
theorem membersOf_eq_none (pairs : List (Byte × Byte)) :
    membersOf (memberBytes pairs) = none ↔ ∃ p ∈ pairs, 64 ≤ p.1.toNat ∨ 1 < p.2.toNat := by
  induction pairs with
  | nil => simp [membersOf]
  | cons p pairs ih =>
    rw [List.exists_mem_cons_iff, ← ih, ← channelOf_eq_none, ← boolOf_eq_none, memberBytes_cons, membersOf]
    cases channelOf p.1 <;> cases boolOf p.2 <;> cases membersOf (memberBytes pairs) <;> simp

/-- R51: the members that a list names stand in its order, each with the channel and the invert of its two bytes. -/
theorem codes_of_membersOf {pairs : List (Byte × Byte)} {ms : List Member} (h : membersOf (memberBytes pairs) = some ms) :
    ms.map (fun mb => (byteOfNat mb.channel, mb.invert.toNat)) = pairs.map fun p => (p.1, p.2.toNat) := by
  induction pairs generalizing ms with
  | nil => cases h; rfl
  | cons p pairs ih =>
    rw [memberBytes_cons, membersOf] at h
    split at h
    next channel invert rest =>
      cases h
      simp only [List.map_cons, ih rest, byteOfNat_of_indexOf channel, toNat_of_boolOf invert]
    next => cases h

theorem byteOfNat_channel_injective : Function.Injective fun c : ChannelId => byteOfNat c.val := by
  intro c d h
  have codes : c.val % 256 = d.val % 256 := congrArg BitVec.toNat h
  have hc : c.val < 64 := c.isLt
  have hd : d.val < 64 := d.isLt
  exact Fin.ext (by omega)

/-- R51 check 1: a channel stands twice among the members exactly where a byte does among the channel bytes. -/
theorem nodup_of_membersOf {pairs : List (Byte × Byte)} {ms : List Member} (h : membersOf (memberBytes pairs) = some ms) :
    (ms.map Member.channel).Nodup ↔ (pairs.map Prod.fst).Nodup := by
  have bytes : (ms.map Member.channel).map (fun c : ChannelId => byteOfNat c.val) = pairs.map Prod.fst := by
    simpa [Function.comp_def] using congrArg (List.map Prod.fst) (codes_of_membersOf h)
  rw [← bytes, List.nodup_map_iff byteOfNat_channel_injective]

/-- R51 check 1, field by field. -/
theorem combinerSettingsOf_eq_none (threshold invert policy : Byte) (pairs : List (Byte × Byte)) :
    combinerSettingsOf threshold invert policy (memberBytes pairs) = none ↔
      1 < invert.toNat ∨ 3 < policy.toNat ∨ (∃ p ∈ pairs, 64 ≤ p.1.toNat ∨ 1 < p.2.toNat) ∨
        (pairs ≠ [] ∧ (threshold = 0 ∨ pairs.length < threshold.toNat)) ∨ ¬(pairs.map Prod.fst).Nodup := by
  rw [← boolOf_eq_none, ← stalePolicyOf_eq_none, ← membersOf_eq_none]
  unfold combinerSettingsOf
  split
  next i p ms inverts named members =>
    have length : ms.length = pairs.length := by simpa using congrArg List.length (codes_of_membersOf members)
    have empty : ms = [] ↔ pairs = [] := by rw [← List.length_eq_zero_iff, length, List.length_eq_zero_iff]
    simp only [ite_eq_left_iff, inverts, named, members, nodup_of_membersOf members, length, ne_eq, empty, reduceCtorEq,
      imp_false, not_not, false_or]
  next missing =>
    simp only [true_iff]
    by_contra all
    simp only [not_or, ← ne_eq, Option.ne_none_iff_exists'] at all
    obtain ⟨⟨i, hi⟩, ⟨p, hp⟩, ⟨ms, hms⟩, -⟩ := all
    exact missing i p ms hi hp hms

theorem codes_of_combinerSettingsOf {threshold invert policy : Byte} {pairs : List (Byte × Byte)} {st : CombinerSettings}
    (h : combinerSettingsOf threshold invert policy (memberBytes pairs) = some st) :
    st.threshold = threshold ∧ st.outInvert = (invert == 1) ∧ st.policy.code = policy ∧
      st.members.map (fun mb => (byteOfNat mb.channel, mb.invert.toNat)) = pairs.map fun p => (p.1, p.2.toNat) := by
  unfold combinerSettingsOf at h
  split at h
  next i p ms hi hp hms =>
    split_ifs at h
    cases h
    rw [boolOf_eq] at hi
    split_ifs at hi
    exact ⟨rfl, (Option.some.inj hi).symm, code_of_stalePolicyOf hp, codes_of_membersOf hms⟩
  next => cases h

/-! ### The update that an evaluation gives -/

section
variable {s : State} {m : CombinerId} {before : Combiner}

/-- R48: an evaluation that leaves the output as it was gives no update. -/
theorem giveCombinerUpdate_same (value : (s.comb m).outValue = before.outValue) (state : (s.comb m).outState = before.outState) :
    s.giveCombinerUpdate m before = s := if_pos ⟨value, state⟩

theorem giveCombinerUpdate_unbound (unbound : ∀ c, (s.chan c).source ≠ .combiner m) : s.giveCombinerUpdate m before = s := by
  rw [State.giveCombinerUpdate, boundTo_eq_none.mpr unbound]
  exact ite_self s

/-- R48: a moved output goes to the channel that the combiner sources. -/
theorem giveCombinerUpdate_bound (sources : s.oneChannelPerSource) {c : ChannelId} (bound : (s.chan c).source = .combiner m)
    (moved : (s.comb m).outValue ≠ before.outValue ∨ (s.comb m).outState ≠ before.outState) :
    s.giveCombinerUpdate m before =
      s.changeConsequent c (s.comb m).outState (s.comb m).outValue (if (s.comb m).outValue = before.outValue then 0 else 1) := by
  rw [State.giveCombinerUpdate, boundTo_eq_some sources rfl bound]
  exact if_neg (not_and_or.mpr moved)

end

/-! ### COMBINER_CONFIG and COMBINER_READ -/

/-- R52: what follows a COMBINER_CONFIG at the combiner itself: the update goes to its channel, and not back to it. -/
theorem configureCombiner_comb (m : CombinerId) (st : CombinerSettings) (s : State) :
    (s.configureCombiner m st).comb m = ((s.comb m).withSettings st).evaluate s.chan := by
  rw [State.configureCombiner, giveCombinerUpdate_comb, State.comb_setComb, if_pos rfl]

/-- Settles O30: the checks of each request in order, what the fields name, and the update by whether the output moved and a channel is
bound. -/
theorem combinerRequestsConfigureAndRead : Obligations.CombinerRequestsConfigureAndRead := by
  refine ⟨⟨fun s g mb threshold invert policy count list h fits => ?_, fun s g mb h => ?_⟩,
    fun threshold invert policy pairs => ⟨combinerSettingsOf_eq_none _ _ _ _, fun st => codes_of_combinerSettingsOf⟩,
    fun s m before sources => ⟨giveCombinerUpdate_same, giveCombinerUpdate_unbound, fun c => giveCombinerUpdate_bound sources⟩⟩
  · rw [exec, execCombinerConfig, request_of_grants h (ofKind_of_grants h) rfl fits, combinerConfigRule]
    congr 1
    cases combinerOf mb with
    | none => rfl
    | some m =>
      cases combinerSettingsOf threshold invert policy list with
      | none => rfl
      | some st =>
        have chan : (s.takeGrant g).chan = s.chan := funext (takeGrant_chan g s)
        simp only [chan, List.any_eq_true, configureCombiner_comb, takeGrant_comb]
        by_cases nested : ∃ x ∈ st.members, (s.chan x.channel).source.isCombiner = true
        · rw [if_pos nested, if_pos nested, conclude_error]
        · rw [if_neg nested, if_neg nested, conclude_ok, State.configureCombiner, takeGrant_comb, chan]
          rfl
  · rw [exec, execCombinerRead, request_of_grants h (ofKind_of_grants h) rfl rfl, combinerReadRule]
    congr 1
    cases named : combinerOf mb with
    | none => rfl
    | some m =>
      have chan : (s.takeGrant g).chan = s.chan := funext (takeGrant_chan g s)
      simp only [conclude_ok, chan, takeGrant_comb, Combiner.report, Combiner.inputsAt1, Combiner.notValid,
        List.countP_eq_length_filter, byteOfNat_of_indexOf named, beq_eq_decide, bne, byteOfBool]

end Sys2Proof.Machine
end

section
/-! PROOFS. What a frame that begins keeps of a link, how a link arbiter chooses, and what the choices of all arbiters leave. -/

namespace Sys2Proof.Machine

/-! ### What a beginning frame keeps of a link -/

/-- What of a link engine no beginning frame touches: the other fields stand at the values of a reset. -/
def Link.kept (l : Link) : Link :=
  { Link.reset with
    state := l.state
    session := l.session
    seen := l.seen
    peerNode := l.peerNode
    peerSession := l.peerSession
    peerWindow := l.peerWindow
    lastFault := l.lastFault
    config := l.config
    policy := l.policy
    helloTimer := l.helloTimer
    silenceTimer := l.silenceTimer
    holdOffTimer := l.holdOffTimer
    nextExpected := l.nextExpected
    exported := l.exported
    framer := l.framer
    gapTimer := l.gapTimer }

@[simp] theorem kept_begin (kind seq : Byte) (body : List Byte) (l : Link) : (l.begin kind seq body).kept = l.kept := by
  unfold Link.begin
  dsimp only
  split <;> rfl

@[simp] theorem kept_appendRecord (kind : DataKind) (body : List Byte) (l : Link) : (l.appendRecord kind body).kept = l.kept := by
  unfold Link.appendRecord
  dsimp only
  split <;> rfl

@[simp] theorem kept_countSent (l : Link) : l.countSent.kept = l.kept := rfl

@[simp] theorem kept_countResent (l : Link) : l.countResent.kept = l.kept := rfl

theorem kept_sendHello (node : Byte) (l : Link) : (l.sendHello node).kept = l.kept := by
  rw [Link.sendHello, kept_countSent, kept_begin]
  rfl

theorem kept_sendAck (l : Link) : l.sendAck.kept = l.kept := by rw [Link.sendAck, kept_countSent, kept_begin]

theorem kept_sendData (kind : DataKind) (body : List Byte) (l : Link) : (l.sendData kind body).kept = l.kept := by
  rw [Link.sendData, kept_countSent, kept_begin, kept_appendRecord]

theorem kept_sendChanges (l : Link) : l.sendChanges.kept = l.kept := by
  rw [Link.sendChanges, kept_sendData]
  rfl

theorem kept_resend (p : Byte) (l : Link) : (l.resend p).kept = l.kept := by
  unfold Link.resend
  split
  · rw [kept_countResent, kept_begin]
    rfl
  · rfl

/-! ### The choice of a link arbiter -/

section
variable {s : State} {k : LinkId}

theorem sendNewData_full (full : (s.linkAt k).config.window.toNat ≤ (s.linkAt k).queue.length) : s.sendNewData? k = none := by
  simp only [State.sendNewData?, if_pos full]

section
variable (room : (s.linkAt k).queue.length < (s.linkAt k).config.window.toNat)
include room

theorem sendNewData_replied {tag kind status : Byte} {data : List Byte} (slot : (s.linkAt k).slot = .replied tag kind status data) :
    s.sendNewData? k =
      some (s.modLink k fun l => Link.sendData .rres (tag :: kind :: status :: data) { l with slot := .empty }) := by
  simp only [State.sendNewData?, if_neg (Nat.not_le.mpr room), slot]

theorem sendNewData_request (slot : ∀ tag kind status data, (s.linkAt k).slot ≠ .replied tag kind status data) {e : RemoteEntry}
    (request : s.remote.mayLeave k = some e) :
    s.sendNewData? k =
      some ((s.modRemote (RemoteTable.markSent e.tag)).modLink k (Link.sendData .rreq (e.tag :: e.kind :: e.body))) := by
  simp only [State.sendNewData?, if_neg (Nat.not_le.mpr room), request]

theorem sendNewData_changes (slot : ∀ tag kind status data, (s.linkAt k).slot ≠ .replied tag kind status data)
    (request : s.remote.mayLeave k = none) :
    s.sendNewData? k = if (s.linkAt k).changes = [] then none else some (s.modLink k Link.sendChanges) := by
  simp only [State.sendNewData?, if_neg (Nat.not_le.mpr room), request]

end

/-- R97: no choice while the line is busy, nor in OFF and FAULT. -/
theorem linkArbiter_silent (silent : (s.linkAt k).line ≠ none ∨ (s.linkAt k).state = .off ∨ (s.linkAt k).state = .fault) :
    s.linkArbiter k = s := by
  unfold State.linkArbiter
  rcases silent with busy | off | fault
  · exact if_pos (Option.isSome_iff_ne_none.mpr busy)
  · simp only [off, ite_self]
  · simp only [fault, ite_self]

section
variable (free : (s.linkAt k).line = none)
include free

theorem linkArbiter_seeking (seeking : (s.linkAt k).state = .seeking) :
    s.linkArbiter k = if (s.linkAt k).helloOwed then s.modLink k (Link.sendHello s.node) else s := by
  simp [State.linkArbiter, free, seeking]

variable (up : (s.linkAt k).state = .up)
include up

theorem linkArbiter_hello (owed : (s.linkAt k).helloOwed = true) : s.linkArbiter k = s.modLink k (Link.sendHello s.node) := by
  simp [State.linkArbiter, free, up, owed]

variable (paid : (s.linkAt k).helloOwed = false)
include paid

theorem linkArbiter_resend {p : Byte} (point : (s.linkAt k).resendPoint = some p) :
    s.linkArbiter k = s.modLink k (Link.resend p) := by
  simp [State.linkArbiter, free, up, paid, point]

variable (resent : (s.linkAt k).resendPoint = none)
include resent

theorem linkArbiter_newData {t : State} (new : s.sendNewData? k = some t) : s.linkArbiter k = t := by
  simp [State.linkArbiter, free, up, paid, resent, new]

theorem linkArbiter_ack (noData : s.sendNewData? k = none) :
    s.linkArbiter k =
      if (s.linkAt k).ackDue = true ∨ (s.linkAt k).keepaliveDue = true then s.modLink k Link.sendAck else s := by
  simp [State.linkArbiter, free, up, paid, resent, noData]

end

/-- R97: everything a link arbiter's choice can be. -/
theorem linkArbiter_cases (s : State) (k : LinkId) :
    s.linkArbiter k = s ∨ s.linkArbiter k = s.modLink k (Link.sendHello s.node) ∨
      (∃ p, s.linkArbiter k = s.modLink k (Link.resend p)) ∨ s.sendNewData? k = some (s.linkArbiter k) ∨
      s.linkArbiter k = s.modLink k Link.sendAck := by
  unfold State.linkArbiter
  dsimp only
  split
  · exact .inl rfl
  split
  · exact .inl rfl
  · exact .inl rfl
  · split
    · exact .inr (.inl rfl)
    · exact .inl rfl
  · split
    · exact .inr (.inl rfl)
    split
    · exact .inr (.inr (.inl ⟨_, rfl⟩))
    split
    · exact .inr (.inr (.inr (.inl ‹_›)))
    split
    · exact .inr (.inr (.inr (.inr rfl)))
    · exact .inl rfl

end

/-! ### What the choices leave -/

/-- What every choice of an arbiter leaves of the remote request table and of the link engines. -/
structure State.KeepsEngines (s t : State) : Prop where
  nextTag : t.remote.nextTag = s.remote.nextTag
  lateCount : t.remote.lateCount = s.remote.lateCount
  links : ∀ k, (t.linkAt k).kept = (s.linkAt k).kept

theorem keepsEngines_refl (s : State) : s.KeepsEngines s := ⟨rfl, rfl, fun _ => rfl⟩

theorem keepsEngines_trans {s t u : State} (h : s.KeepsEngines t) (h' : t.KeepsEngines u) : s.KeepsEngines u :=
  ⟨h'.nextTag.trans h.nextTag, h'.lateCount.trans h.lateCount, fun k => (h'.links k).trans (h.links k)⟩

theorem keepsEngines_modLink {s : State} {k : LinkId} {f : Link → Link} (keeps : (f (s.linkAt k)).kept = (s.linkAt k).kept) :
    s.KeepsEngines (s.modLink k f) where
  nextTag := rfl
  lateCount := rfl
  links j := by
    rw [State.linkAt_modLink]
    split
    · rename_i same
      rw [keeps, same]
    · rfl

theorem keepsEngines_sendNewData {s t : State} {k : LinkId} (new : s.sendNewData? k = some t) : s.KeepsEngines t := by
  unfold State.sendNewData? at new
  dsimp only at new
  split at new
  · cases new
  split at new
  · cases new
    exact keepsEngines_modLink (kept_sendData _ _ { s.linkAt k with slot := .empty })
  split at new
  · cases new
    have marked (e : RemoteEntry) : s.KeepsEngines (s.modRemote (RemoteTable.markSent e.tag)) := ⟨rfl, rfl, fun _ => rfl⟩
    exact keepsEngines_trans (marked _) (keepsEngines_modLink (kept_sendData _ _ _))
  split at new <;> cases new
  exact keepsEngines_modLink (kept_sendChanges _)

theorem keepsEngines_linkArbiter (s : State) (k : LinkId) : s.KeepsEngines (s.linkArbiter k) := by
  rcases linkArbiter_cases s k with h | h | ⟨p, h⟩ | h | h
  · rw [h]
    exact keepsEngines_refl s
  · rw [h]
    exact keepsEngines_modLink (kept_sendHello _ _)
  · rw [h]
    exact keepsEngines_modLink (kept_resend p _)
  · exact keepsEngines_sendNewData h
  · rw [h]
    exact keepsEngines_modLink (kept_sendAck _)

theorem keepsEngines_linkArbiters (ks : List LinkId) (s : State) :
    s.KeepsEngines (ks.foldl (fun t k => t.linkArbiter k) s) := by
  induction ks generalizing s with
  | nil => exact keepsEngines_refl s
  | cons k ks ih => exact keepsEngines_trans (keepsEngines_linkArbiter s k) (ih _)

theorem deliver_eq (e : RemoteEntry) (rest : List Byte) (t : RemoteTable) :
    ∃ E, t.deliver e rest = { t with entries := E, doneOrder := rest } := by
  unfold RemoteTable.deliver
  dsimp only
  split
  · exact ⟨_, rfl⟩
  · exact ⟨_, rfl⟩

/-- R174: of the remote request table the output arbiter touches the entries and the done order, of the host port the queued
reply, the frame in transmission and the output sequence number. -/
theorem hostArbiter_sends (s : State) :
    ∃ E D q f o, s.hostArbiter.links = s.links ∧ s.hostArbiter.remote = { s.remote with entries := E, doneOrder := D } ∧
      s.hostArbiter.host = { s.host with queued := q, sending := f, outSeq := o } := by
  have still : ∃ E D q f o, s.links = s.links ∧ s.remote = { s.remote with entries := E, doneOrder := D } ∧
      s.host = { s.host with queued := q, sending := f, outSeq := o } := ⟨_, _, _, _, _, rfl, rfl, rfl⟩
  unfold State.hostArbiter
  split
  · exact still
  split
  · exact ⟨_, _, _, _, _, rfl, rfl, rfl⟩
  split
  · exact still
  split
  · unfold State.beginResult
    split
    · rename_i e _
      obtain ⟨E, h⟩ := deliver_eq e _ s.remote
      exact ⟨E, _, _, _, _, rfl, h, rfl⟩
    · exact ⟨_, _, _, _, _, rfl, rfl, rfl⟩
  split
  · exact ⟨_, _, _, _, _, rfl, rfl, rfl⟩
  · exact still

theorem keepsEngines_settle (s : State) : s.KeepsEngines s.settle := by
  obtain ⟨_, _, _, _, _, links, remote, _⟩ := hostArbiter_sends s
  have host : s.KeepsEngines s.hostArbiter :=
    ⟨by rw [remote], by rw [remote], fun k => by rw [State.linkAt, links, State.linkAt]⟩
  exact keepsEngines_trans host (keepsEngines_linkArbiters allLinks _)

theorem allLinks_eq : allLinks = [0, 1, 2, 3] := by decide

theorem settle_host (s : State) : s.settle.host = s.hostArbiter.host := by
  obtain ⟨_, _, h⟩ := linkArbiters_only allLinks s.hostArbiter
  rw [State.settle, h]

/-- The link `l` with what a beginning frame can touch as it stands in `l'`. -/
def Link.withTouched (l l' : Link) : Link :=
  { l with
    helloOwed := l'.helloOwed
    keepaliveTimer := l'.keepaliveTimer
    keepaliveDue := l'.keepaliveDue
    nextSend := l'.nextSend
    queue := l'.queue
    retryCount := l'.retryCount
    resendPoint := l'.resendPoint
    retransmitTimer := l'.retransmitTimer
    ackOwed := l'.ackOwed
    ackDue := l'.ackDue
    ackTimer := l'.ackTimer
    counters := l'.counters
    changes := l'.changes
    slot := l'.slot
    line := l'.line }

/-- Two links that keep the same differ in nothing but what a beginning frame can touch. -/
theorem eq_withTouched_of_kept {l l' : Link} (h : l'.kept = l.kept) : l' = l.withTouched l' :=
  calc
    l' = l'.kept.withTouched l' := rfl
    _ = l.kept.withTouched l' := by rw [h]
    _ = l.withTouched l' := rfl

end Sys2Proof.Machine
end

section
/-! PROOFS. How reliable delivery takes what arrives: distances, the ack field, data frames, and the receive framer. -/

namespace Sys2Proof.Machine

/-! ### Distances -/

/-- R83: the steps counted by the distance lead there. -/
theorem add_distance (x y : Byte) : x + BitVec.ofNat 8 (distance x y) = y := by
  rw [distance, BitVec.ofNat_toNat, BitVec.setWidth_eq, BitVec.add_comm, BitVec.sub_add_cancel]

theorem distance_le (x y : Byte) : distance x y ≤ 255 := Nat.le_of_lt_succ (y - x).isLt

theorem distance_add_ofNat (x : Byte) (n : Nat) : distance x (x + BitVec.ofNat 8 n) = n % 256 := by
  rw [distance, BitVec.add_comm, BitVec.add_sub_cancel, BitVec.toNat_ofNat]

theorem distance_eq_zero {x y : Byte} : distance x y = 0 ↔ x = y := by
  constructor
  · intro none
    simpa [none] using add_distance x y
  · rintro rfl
    simp [distance]

/-! ### The ack field -/

section
variable {l : Link} {a : Byte}

theorem takeAck_bad (bad : distance l.oldest l.nextSend < distance l.oldest a) :
    l.takeAck a = { l with counters := { l.counters with badAcks := satAdd l.counters.badAcks 1 } } :=
  if_neg (Nat.not_le.mpr bad)

theorem takeAck_nothing (nothing : distance l.oldest a = 0) : l.takeAck a = l := by
  simp [Link.takeAck, nothing]

variable (valid : distance l.oldest a ≤ distance l.oldest l.nextSend) (removes : distance l.oldest a ≠ 0)
include valid removes

theorem takeAck_removes :
    l.takeAck a =
      Link.afterRemoval (distance l.oldest a) l.oldest { l with queue := l.queue.drop (distance l.oldest a) } := by
  simp only [Link.takeAck, if_pos valid, if_neg removes]

/-- R87: an ack that empties the queue. -/
theorem takeAck_all (all : l.queue.drop (distance l.oldest a) = []) :
    l.takeAck a = { l with queue := [], retryCount := 0, retransmitTimer := none, resendPoint := none } := by
  rw [takeAck_removes valid removes, all, Link.afterRemoval]

/-- R87: an ack that leaves records. -/
theorem takeAck_part {r : FrameRecord} {rest : List FrameRecord} (part : l.queue.drop (distance l.oldest a) = r :: rest) :
    l.takeAck a =
      { l with
        queue := r :: rest
        retryCount := 0
        retransmitTimer := some (ofMs l.config.retransmit)
        resendPoint := l.resendPoint.map fun p => if distance l.oldest p < distance l.oldest a then r.seq else p } := by
  rw [takeAck_removes valid removes, part, Link.afterRemoval]

end

/-! ### Data frames -/

section
variable {s : State} {k : LinkId} {kind : DataKind} {seq : Byte} {body : List Byte}

theorem classify_accepted (next : seq = (s.linkAt k).nextExpected) :
    s.classify k kind seq body =
      (s.modLink k fun l => ({ l with nextExpected := l.nextExpected + 1 }).oweAck).handOn k kind body := if_pos next

theorem classify_duplicate (before : 1 ≤ distance seq (s.linkAt k).nextExpected)
    (near : distance seq (s.linkAt k).nextExpected ≤ 8) :
    s.classify k kind seq body =
      s.modLink k fun l => Link.oweAck { l with counters := { l.counters with duplicates := satAdd l.counters.duplicates 1 } } := by
  have other : seq ≠ (s.linkAt k).nextExpected := fun same => Nat.ne_of_gt before (distance_eq_zero.mpr same)
  simp only [State.classify, if_neg other, if_pos near]

theorem classify_outOfOrder (far : 8 < distance seq (s.linkAt k).nextExpected) :
    s.classify k kind seq body =
      s.modLink k fun l => Link.oweAck { l with counters := { l.counters with outOfOrder := satAdd l.counters.outOfOrder 1 } } := by
  have other : seq ≠ (s.linkAt k).nextExpected := fun same => Nat.ne_of_gt (Nat.zero_lt_of_lt far) (distance_eq_zero.mpr same)
  simp only [State.classify, if_neg other, if_neg (Nat.not_le.mpr far)]

end

theorem oweAck_eq (l : Link) :
    l.oweAck = { l with ackOwed := true, ackTimer := match l.ackTimer with | none => some 20 | some t => some t } := by
  unfold Link.oweAck
  cases l.ackTimer <;> rfl

theorem handOn_change_cons (k : LinkId) (b0 b1 : Byte) (rest : List Byte) (s : State) :
    s.handOn k .change (b0 :: b1 :: rest) = (s.applyEntry k (changeEntryOf b0 b1)).handOn k .change rest := rfl

/-- R115, R116, R117: the entry that two bytes give is an update from its link, or a stray. -/
theorem applyEntry_changeEntryOf (k : LinkId) (b0 b1 : Byte) (s : State) :
    s.applyEntry k (changeEntryOf b0 b1) =
      let c : ChannelId := Fin.ofNat 64 (b0.toNat % 64)
      let edges := b1.toNat % 16
      let value := b0.getLsbD 7
      if (s.chan c).source = .link k then
        s.change c (if b0.getLsbD 6 then .valid else .stale) value
          (if edges = 0 then (if value = (s.chan c).value then 0 else 1) else edges)
      else s.stray k := by
  unfold State.applyEntry
  split
  · rename_i own
    rw [update_own own]
    exact (if_pos own).symm
  · rename_i stranger
    exact (if_neg stranger).symm

/-- R138: an RREQ enters an EMPTY slot, or is a stray. -/
theorem takeRreq_eq (k : LinkId) (tag kind : Byte) (body : List Byte) (s : State) :
    s.takeRreq k tag kind body =
      if (s.linkAt k).slot = .empty then s.modLink k fun l => { l with slot := .waiting tag kind body } else s.stray k := by
  unfold State.takeRreq
  cases (s.linkAt k).slot with
  | empty => exact (if_pos rfl).symm
  | waiting => exact (if_neg nofun).symm
  | replied => exact (if_neg nofun).symm

/-! ### The receive framer -/

/-- R85: the frame that received bytes give, and whether it passes the check. -/
theorem receivedFrame_cons (kind seq ack len : Byte) (rest : List Byte) :
    receivedFrame (kind :: seq :: ack :: len :: rest) =
      let body := rest.take len.toNat
      (⟨kind, seq, ack, body⟩,
        decide (rest.drop len.toNat = bytesOf16 (crc16 (kind :: seq :: ack :: len :: body))) &&
          linkLengthFits kind body.length) := by
  rw [receivedFrame, beq_eq_decide]

section
variable {s : State} {k : LinkId} {b : Byte} {f : LinkFramer}

theorem linkByte_framed (taken : (s.linkAt k).framer.take b = (f, none)) :
    s.linkByte k b = s.modLink k fun l => { l with framer := f, gapTimer := f.gap } := by
  simp only [State.linkByte, taken]

theorem linkByte_completes {got : List Byte} (taken : (s.linkAt k).framer.take b = (f, some got)) :
    s.linkByte k b =
      (s.modLink k fun l => { l with framer := f, gapTimer := f.gap }).takeFrame k (receivedFrame got).1 (receivedFrame got).2 := by
  simp only [State.linkByte, taken]

end

section
variable {got : List Byte} {b : Byte}

theorem take_header_short (short : got.length < 3) : (LinkFramer.header got).take b = (.header (got ++ [b]), none) := by
  have : (got ++ [b]).length < 4 := by simpa using Nat.succ_lt_succ short
  simp only [LinkFramer.take, if_pos this]

theorem take_header_full (full : got.length = 3) :
    (LinkFramer.header got).take b =
      if 64 < b.toNat then (huntAgain (got ++ [b]), none) else (.body (got ++ [b]) (b.toNat + 2), none) := by
  have : ¬(got ++ [b]).length < 4 := by simp [full]
  simp only [LinkFramer.take, if_neg this]

theorem take_body_more {due : Nat} (more : 2 ≤ due) :
    (LinkFramer.body got due).take b = (.body (got ++ [b]) (due - 1), none) := if_neg (by omega)

theorem take_body_last {due : Nat} (last : due ≤ 1) :
    (LinkFramer.body got due).take b = (.hunting, some (got ++ [b])) := if_pos last

/-- R197, log 23: where hunting resumes among four header bytes. -/
theorem huntAgain_four (b0 b1 b2 b3 : Byte) :
    huntAgain [b0, b1, b2, b3] =
      if b0 = 0xC3 then .header [b1, b2, b3]
      else if b1 = 0xC3 then .header [b2, b3]
      else if b2 = 0xC3 then .header [b3]
      else if b3 = 0xC3 then .header []
      else .hunting := rfl

end

end Sys2Proof.Machine
end

section
/-! PROOFS. The statements about reliable delivery: O12, O37, O38, O40, O41, O42. -/

namespace Sys2Proof.Machine

/-- Settles O12: each choice keeps the engines, and the output arbiter alone touches the host port and the notice queue. -/
theorem arbitersTouchOnlyWhatTheySend : Obligations.ArbitersTouchOnlyWhatTheySend := by
  intro s
  have engines := keepsEngines_settle s
  refine ⟨by simp only [State.settle, allLinks_eq, List.foldl], settle_channels s, settle_lines s, settle_combiners s,
    settle_executor s, settle_node s, settle_held s, settle_pending s, ?_, ?_, ⟨engines.nextTag, engines.lateCount⟩, fun k => ?_⟩
  · obtain ⟨_, _, _, N, n, h⟩ := settle_only s
    exact ⟨N, n, by rw [h]⟩
  · obtain ⟨_, _, q, f, o, _, _, h⟩ := hostArbiter_sends s
    exact ⟨q, f, o, (settle_host s).trans h⟩
  · exact ⟨_, _, _, _, _, _, _, _, _, _, _, _, _, _, _, eq_withTouched_of_kept (engines.links k)⟩

/-- Settles O37: the distance leads there, and no smaller number does. -/
theorem distanceCountsSteps : Obligations.DistanceCountsSteps := by
  refine ⟨fun x y => ⟨distance_le x y, add_distance x y, fun n fewer there => ?_⟩, by decide, by decide, by decide⟩
  rw [← there, distance_add_ofNat] at fewer
  exact Nat.not_lt.mpr (Nat.mod_le n 256) fewer

/-- Settles O38: the two rows are one event, and the byte is taken by the state of the framer. -/
theorem linkBytesAreFramed : Obligations.LinkBytesAreFramed := by
  refine ⟨⟨fun k b s running => ⟨event_occurs running, event_occurs running⟩, ?_⟩, ?_⟩
  · intro k b s framed
    refine ⟨fun hunting => ?_, fun got header short => ?_, fun got header full fits => ?_, fun got due body more => ?_,
      fun kind seq ack len rest due body last => ?_⟩
    · rw [linkByte_framed (f := if b = 0xC3 then .header [] else .hunting) (by rw [hunting]; rfl)]
      split <;> rfl
    · exact linkByte_framed (by rw [header, take_header_short short])
    · exact linkByte_framed (by rw [header, take_header_full full, if_neg (Nat.not_lt.mpr fits)])
    · exact linkByte_framed (by rw [body, take_body_more more])
    · have taken : (s.linkAt k).framer.take b = (.hunting, some (kind :: seq :: ack :: len :: (rest ++ [b]))) := by
        rw [body]
        exact take_body_last last
      have law := linkByte_completes taken
      rw [receivedFrame_cons] at law
      exact law
  · intro k b0 b1 b2 len s header long
    rw [linkByte_framed (by rw [header, take_header_full rfl, if_pos long])]
    refine congrArg (State.modLink k · s) (funext fun l => ?_)
    rw [List.cons_append, List.cons_append, List.cons_append, List.nil_append, huntAgain_four]
    split
    · rfl
    split
    · rfl
    split
    · rfl
    split
    · rfl
    · rfl

/-- Settles O40: the four cases of an ack field. -/
theorem ackFieldRemovesRecords : Obligations.AckFieldRemovesRecords := by
  intro l a
  refine ⟨takeAck_bad, takeAck_nothing, takeAck_all, fun r rest valid removes part => ?_⟩
  have law := takeAck_part valid removes part
  cases point : l.resendPoint with
  | none =>
    rw [point] at law
    exact law
  | some p =>
    rw [point, Option.map_some, apply_ite some] at law
    exact law

/-- Settles O41: by the number of the frame, and by what an accepted one carries. -/
theorem dataFramesReachTheirConsumers : Obligations.DataFramesReachTheirConsumers := by
  have owed : Link.oweAck = _ := funext oweAck_eq
  refine ⟨fun s k kind seq body => ⟨fun next => ?_, fun before near => ?_, fun far => ?_⟩, fun s k b0 b1 rest => ?_,
    fun _ _ => rfl, fun s k tag kind body => takeRreq_eq k tag kind body s, fun _ _ => rfl⟩
  · exact owed ▸ classify_accepted next
  · exact owed ▸ classify_duplicate before near
  · exact owed ▸ classify_outOfOrder far
  · rw [handOn_change_cons, applyEntry_changeEntryOf]

/-- Settles O42: rank by rank, each from the law of its choice. -/
theorem transmitArbiterRanks : Obligations.TransmitArbiterRanks := by
  intro s k l room
  by_cases silent : l.line ≠ none ∨ l.state = .off ∨ l.state = .fault
  · rw [if_pos silent, linkArbiter_silent silent]
  rw [if_neg silent]
  push Not at silent
  obtain ⟨free, notOff, notFault⟩ := silent
  cases state : l.state with
  | off => exact absurd state notOff
  | fault => exact absurd state notFault
  | seeking => simpa using linkArbiter_seeking free state
  | up =>
    split
    · exact linkArbiter_hello free state ‹_›
    have paid : l.helloOwed = false := Bool.not_eq_true _ ▸ ‹¬l.helloOwed = true›
    rw [if_neg nofun]
    split
    · exact linkArbiter_resend free state paid ‹_›
    · rename_i point slot
      split
      · exact linkArbiter_newData free state paid point (sendNewData_replied ‹_› slot)
      · exact linkArbiter_ack free state paid point (sendNewData_full (Nat.not_lt.mp ‹_›))
    · rename_i point request slot
      split
      · exact linkArbiter_newData free state paid point (sendNewData_request ‹_› slot request)
      · exact linkArbiter_ack free state paid point (sendNewData_full (Nat.not_lt.mp ‹_›))
    · rename_i point request slot
      split
      · rename_i offered
        refine linkArbiter_newData free state paid point ?_
        rw [sendNewData_changes offered.1 slot request, if_neg offered.2]
      · rename_i nothing
        refine linkArbiter_ack free state paid point ?_
        by_cases roomy : room
        · rw [sendNewData_changes roomy slot request, if_pos (not_not.mp fun waiting => nothing ⟨roomy, waiting⟩)]
        · exact sendNewData_full (Nat.not_lt.mp roomy)

end Sys2Proof.Machine
end

section
/-! PROOFS. The remote request table by itself: the tag that is given next, what each of its operations leaves of an entry, and the law of the table, which each operation keeps (R123 to R127). -/

namespace Sys2Proof.Machine

/-! ### The tag that is given next -/

/-- R125: the search stops at a candidate after used ones alone, and at an unused one unless its fuel is spent. -/
theorem nextFreeTag_search (used : List Byte) (fuel : Nat) (cand : Byte) :
    ∃ n ≤ fuel, nextFreeTag used fuel cand = cand + BitVec.ofNat 8 n ∧ (∀ i < n, cand + BitVec.ofNat 8 i ∈ used) ∧
      (n < fuel → nextFreeTag used fuel cand ∉ used) := by
  induction fuel generalizing cand with
  | zero => exact ⟨0, le_rfl, by simp [nextFreeTag], nofun, nofun⟩
  | succ fuel ih =>
    unfold nextFreeTag
    split
    · rename_i taken
      obtain ⟨n, bound, found, skipped, free⟩ := ih (cand + 1)
      have shift (i : Nat) : cand + 1 + BitVec.ofNat 8 i = cand + BitVec.ofNat 8 (i + 1) := by
        rw [BitVec.add_assoc, Nat.add_comm i 1, BitVec.ofNat_add]
        rfl
      refine ⟨n + 1, Nat.succ_le_succ bound, found.trans (shift n), fun i below => ?_, fun below => free (Nat.lt_of_succ_lt_succ below)⟩
      cases i with
      | zero => simpa using taken
      | succ i => exact shift i ▸ skipped i (Nat.lt_of_succ_lt_succ below)
    · exact ⟨0, Nat.zero_le _, by simp, nofun, fun _ => ‹_›⟩

/-- Fewer tags than a byte has values do not fill a run of candidates that is longer than they are many. -/
theorem exists_free_candidate (used : List Byte) (few : used.length < 256) (cand : Byte) :
    ∃ i ≤ used.length, cand + BitVec.ofNat 8 i ∉ used := by
  by_contra full
  push Not at full
  have distinct : ((List.range (used.length + 1)).map fun i => cand + BitVec.ofNat 8 i).Nodup := by
    refine List.Nodup.map_on (fun i hi j hj same => ?_) List.nodup_range
    have values : i % 256 = j % 256 := by
      simpa using congrArg BitVec.toNat (BitVec.add_right_inj cand |>.mp same)
    rw [List.mem_range] at hi hj
    omega
  have covered := (List.subperm_of_subset distinct fun x hx => by
    obtain ⟨i, hi, rfl⟩ := List.mem_map.mp hx
    exact full i (Nat.le_of_lt_succ (List.mem_range.mp hi))).length_le
  simp at covered

/-- R125: the tag given is the first candidate that no entry holds. -/
theorem freshTag_spec {t : RemoteTable} (few : t.entries.length < 256) :
    ∃ n < 256, t.freshTag = t.nextTag + BitVec.ofNat 8 n ∧ t.freshTag ∉ t.entries.map RemoteEntry.tag ∧
      ∀ i < n, t.nextTag + BitVec.ofNat 8 i ∈ t.entries.map RemoteEntry.tag := by
  obtain ⟨n, bound, found, skipped, free⟩ := nextFreeTag_search (t.entries.map RemoteEntry.tag) t.entries.length t.nextTag
  refine ⟨n, bound.trans_lt few, found, fun taken => ?_, skipped⟩
  have spent : n = t.entries.length := bound.eq_of_not_lt fun below => free below taken
  obtain ⟨i, hi, unused⟩ := exists_free_candidate (t.entries.map RemoteEntry.tag) (by simpa using few) t.nextTag
  rw [List.length_map] at hi
  rcases hi.lt_or_eq with below | last
  · exact unused (skipped i (spent ▸ below))
  · rw [RemoteTable.freshTag, found, spent, ← last] at taken
    exact unused taken

theorem freshTag_notMem {t : RemoteTable} (few : t.entries.length < 256) : t.freshTag ∉ t.entries.map RemoteEntry.tag := by
  obtain ⟨_, _, _, free, _⟩ := freshTag_spec few
  exact free

/-! ### The law of the table -/

/-- What the law of the table asks of one entry: `up` says which links are UP, and `order` is the done order. -/
structure RemoteEntry.Law (up : LinkId → Prop) (order : List Byte) (e : RemoteEntry) : Prop where
  link : e.needsUp = true → up e.link
  timer : e.timer.isSome = true ↔ e.state = .queued ∨ e.state = .sent
  done : e.tag ∈ order ↔ e.state = .done

/-- The law of the table in terms of its own: entry by entry, with `up` for the state of the links. -/
structure RemoteTable.Law (up : LinkId → Prop) (t : RemoteTable) : Prop where
  capacity : t.entries.length ≤ Config.tableCapacity
  tags : (t.entries.map RemoteEntry.tag).Nodup
  awaiting : ∀ k : LinkId, t.entries.countP (fun e => e.link == k && e.awaiting) ≤ 1
  entry : ∀ e ∈ t.entries, e.Law up t.doneOrder
  order : t.doneOrder.Nodup
  held : ∀ tag ∈ t.doneOrder, tag ∈ t.entries.map RemoteEntry.tag

/-- R124: an entry is known by its tag. -/
theorem RemoteTable.Law.eq_of_tag {up : LinkId → Prop} {t : RemoteTable} (h : t.Law up) {a b : RemoteEntry}
    (ha : a ∈ t.entries) (hb : b ∈ t.entries) (same : a.tag = b.tag) : a = b :=
  List.inj_on_of_nodup_map h.tags ha hb same

theorem remoteLaw_iff (s : State) : s.RemoteLaw ↔ s.remote.Law fun k => (s.linkAt k).state = .up := by
  constructor
  · intro h
    refine ⟨h.capacity, h.tags, h.awaiting, fun e he => ⟨h.links e he, h.timers e he, ?_⟩, h.order, fun tag ht => ?_⟩
    · refine (h.done e.tag).trans ⟨fun ⟨x, hx, same, done⟩ => ?_, fun done => ⟨e, he, rfl, done⟩⟩
      exact List.inj_on_of_nodup_map h.tags hx he same ▸ done
    · obtain ⟨e, he, same, -⟩ := (h.done tag).mp ht
      exact List.mem_map.mpr ⟨e, he, same⟩
  · intro h
    refine ⟨h.capacity, h.tags, h.awaiting, fun e he => (h.entry e he).link, h.order, fun tag => ⟨fun ht => ?_, ?_⟩,
      fun e he => (h.entry e he).timer⟩
    · obtain ⟨e, he, rfl⟩ := List.mem_map.mp (h.held tag ht)
      exact ⟨e, he, rfl, (h.entry e he).done.mp ht⟩
    · rintro ⟨e, he, rfl, done⟩
      exact (h.entry e he).done.mpr done

/-! ### Entries that are written and entries that are freed -/

section
variable {up up' : LinkId → Prop} {t : RemoteTable} {D : List Byte}

/-- Every entry is written, and keeps its tag. -/
theorem RemoteTable.Law.map (h : t.Law up) {f : RemoteEntry → RemoteEntry} (tag : ∀ e, (f e).tag = e.tag)
    (awaiting : ∀ k : LinkId, t.entries.countP (fun e => (f e).link == k && (f e).awaiting) ≤ 1)
    (entry : ∀ e ∈ t.entries, (f e).Law up' D) (order : D.Nodup) (held : ∀ tag ∈ D, tag ∈ t.entries.map RemoteEntry.tag) :
    RemoteTable.Law up' { t with entries := t.entries.map f, doneOrder := D } := by
  have tags : (t.entries.map f).map RemoteEntry.tag = t.entries.map RemoteEntry.tag := by
    rw [List.map_map]
    exact List.map_congr_left fun e _ => tag e
  exact ⟨by simpa using h.capacity, tags.symm ▸ h.tags, fun k => by rw [List.countP_map]; exact awaiting k,
    List.forall_mem_map.mpr entry, order, fun x hx => tags.symm ▸ held x hx⟩

/-- No entry begins to await an answer. -/
theorem RemoteTable.Law.awaiting_mono (h : t.Law up) {f : RemoteEntry → RemoteEntry} (link : ∀ e, (f e).link = e.link)
    (mono : ∀ e ∈ t.entries, (f e).awaiting = true → e.awaiting = true) (k : LinkId) :
    t.entries.countP (fun e => (f e).link == k && (f e).awaiting) ≤ 1 := by
  refine (List.countP_mono_left fun e he both => ?_).trans (h.awaiting k)
  rw [Bool.and_eq_true, link] at *
  exact ⟨both.1, mono e he both.2⟩

/-- Among the entries of its link, one that begins to await an answer is the only one. -/
theorem RemoteTable.Law.awaiting_new (h : t.Law up) {e : RemoteEntry} {f : RemoteEntry → RemoteEntry}
    (link : ∀ x ∈ t.entries, x.tag = e.tag → (f x).link = e.link)
    (idle : ∀ x ∈ t.entries, x.link = e.link → x.awaiting = false) (k : LinkId) :
    t.entries.countP (fun x => (if x.tag = e.tag then f x else x).link == k && (if x.tag = e.tag then f x else x).awaiting) ≤ 1 := by
  by_cases own : e.link = k
  · have one : t.entries.countP (fun x => x.tag == e.tag) ≤ 1 := by
      have count := List.nodup_iff_count_le_one.mp h.tags e.tag
      rwa [List.count, List.countP_map] at count
    refine (List.countP_mono_left fun x hx both => ?_).trans one
    by_contra other
    rw [beq_iff_eq] at other
    rw [if_neg other, Bool.and_eq_true, beq_iff_eq, idle x hx (by simp_all)] at both
    exact Bool.noConfusion both.2
  · refine (List.countP_mono_left fun x hx both => ?_).trans (h.awaiting k)
    split at both
    · rw [link x hx ‹_›, beq_eq_false_iff_ne.mpr own] at both
      cases both
    · exact both

/-- The entry `e` is written and keeps its tag and link; what then is in the done order differs from before in its tag alone. -/
theorem RemoteTable.Law.modEntry (h : t.Law up) {e : RemoteEntry} (he : e ∈ t.entries) {f : RemoteEntry → RemoteEntry}
    (tag : ∀ x, (f x).tag = x.tag) (link : ∀ x, (f x).link = x.link)
    (awaiting : ((f e).awaiting = true → e.awaiting = true) ∨ ∀ x ∈ t.entries, x.link = e.link → x.awaiting = false)
    (entry : (f e).Law up D) (order : D.Nodup) (others : ∀ x, x ≠ e.tag → (x ∈ D ↔ x ∈ t.doneOrder)) :
    RemoteTable.Law up { t.modEntry e.tag f with doneOrder := D } := by
  have written : ∀ x ∈ t.entries, x.tag = e.tag → x = e := fun x hx => h.eq_of_tag hx he
  refine h.map (fun x => ?_) (fun k => ?_) (fun x hx => ?_) order fun x hx => ?_
  · split
    · exact tag x
    · rfl
  · rcases awaiting with mono | idle
    · refine h.awaiting_mono (fun x => ?_) (fun x hx now => ?_) k
      · split
        · exact link x
        · rfl
      · split at now
        · obtain rfl := written x hx ‹_›
          exact mono now
        · exact now
    · exact h.awaiting_new (fun x hx same => written x hx same ▸ link x) idle k
  · split
    · exact written x hx ‹_› ▸ entry
    · have law := h.entry x hx
      exact ⟨law.link, law.timer, (others x.tag ‹_›).trans law.done⟩
  · by_cases same : x = e.tag
    · exact same ▸ List.mem_map_of_mem he
    · exact h.held x ((others x same).mp hx)

/-- The entries that `p` does not keep are freed, none of which the done order then names. -/
theorem RemoteTable.Law.filter (h : t.Law up) {p : RemoteEntry → Bool} (order : D.Nodup)
    (kept : ∀ e ∈ t.entries, p e = true → (e.tag ∈ D ↔ e.tag ∈ t.doneOrder))
    (held : ∀ tag ∈ D, ∃ e ∈ t.entries, e.tag = tag ∧ p e = true) :
    RemoteTable.Law up { t with entries := t.entries.filter p, doneOrder := D } := by
  have sub : (t.entries.filter p).Sublist t.entries := List.filter_sublist
  refine ⟨sub.length_le.trans h.capacity, h.tags.sublist (sub.map _), fun k => (sub.countP_le).trans (h.awaiting k),
    fun e he => ?_, order, fun tag ht => ?_⟩
  · obtain ⟨mem, keeps⟩ := List.mem_filter.mp he
    have law := h.entry e mem
    exact ⟨law.link, law.timer, (kept e mem keeps).trans law.done⟩
  · obtain ⟨e, he, rfl, keeps⟩ := held tag ht
    exact List.mem_map_of_mem (List.mem_filter.mpr ⟨he, keeps⟩)

/-- The entry `e` is freed, and its tag leaves the done order if it stands there. -/
theorem RemoteTable.Law.free (h : t.Law up) {e : RemoteEntry} (order : D.Nodup)
    (others : ∀ x, x ∈ D ↔ x ∈ t.doneOrder ∧ x ≠ e.tag) : RemoteTable.Law up { t.free e.tag with doneOrder := D } := by
  refine h.filter order (fun x _ keeps => ?_) fun tag ht => ?_
  · simpa [others] using fun _ => by simpa using keeps
  · obtain ⟨before, other⟩ := (others tag).mp ht
    obtain ⟨x, hx, rfl⟩ := List.mem_map.mp (h.held tag before)
    exact ⟨x, hx, rfl, by simpa using other⟩

end

end Sys2Proof.Machine
end

section
/-! PROOFS. Each operation of the remote request table keeps the law of the table: REMOTE_SEND, answers, timeouts, results, the passing of time, and a link that leaves UP (R125 to R135, R70). -/

namespace Sys2Proof.Machine

section
variable {up up' : LinkId → Prop} {t : RemoteTable} {e : RemoteEntry}

theorem RemoteTable.Law.mono (h : t.Law up) (later : ∀ k, up k → up' k) : t.Law up' :=
  ⟨h.capacity, h.tags, h.awaiting, fun e he => ⟨fun needs => later _ ((h.entry e he).link needs), (h.entry e he).timer,
    (h.entry e he).done⟩, h.order, h.held⟩

theorem RemoteTable.Law.notMem_doneOrder (h : t.Law up) (he : e ∈ t.entries) (other : e.state ≠ .done) :
    e.tag ∉ t.doneOrder := fun mem => other ((h.entry e he).done.mp mem)

theorem remoteTableLaw_reset : RemoteTable.reset.Law up :=
  ⟨by decide, List.nodup_nil, fun _ => Nat.zero_le 1, nofun, List.nodup_nil, nofun⟩

/-- R127: an entry's timer runs on or stays stopped. -/
theorem RemoteTable.Law.passed (h : t.Law up) : RemoteTable.Law up { t with entries := t.entries.map RemoteEntry.pass } :=
  h.map (fun _ => rfl) (h.awaiting_mono (fun _ => rfl) fun _ _ now => now)
    (fun e he =>
      have law := h.entry e he
      ⟨law.link, by simpa [RemoteEntry.pass, Timer.pass] using law.timer, law.done⟩)
    h.order h.held

/-! ### Entries that are looked up -/

theorem of_entry {tag : Byte} (found : t.entry? tag = some e) : e ∈ t.entries ∧ e.tag = tag :=
  ⟨List.mem_of_find?_eq_some found, by simpa using List.find?_some found⟩

/-- R130: an RRES is matched by tag, link and inner kind. -/
theorem of_match {k : LinkId} {tag kind : Byte} (found : t.match? k tag kind = some e) : e ∈ t.entries ∧ e.tag = tag := by
  have fits := List.find?_some found
  simp only [Bool.and_eq_true, beq_iff_eq] at fits
  exact ⟨List.mem_of_find?_eq_some found, fits.1.1⟩

/-! ### Entries that REMOTE_SEND accepts, and RREQs that leave -/

/-- R126: an entry of a link that is UP enters a free place, under a tag that no entry holds. -/
theorem RemoteTable.Law.accepted (h : t.Law up) {k : LinkId} (sends : up k) (room : t.entries.length < Config.tableCapacity)
    (timeout kind : Byte) (body : List Byte) : (t.accept k timeout kind body).Law up := by
  have free : t.freshTag ∉ t.entries.map RemoteEntry.tag := freshTag_notMem (room.trans (by decide))
  refine ⟨by simpa [RemoteTable.accept] using room, ?_, fun j => ?_, fun e he => ?_, h.order, fun tag ht => ?_⟩
  · rw [RemoteTable.accept, List.map_append]
    exact h.tags.append (List.nodup_singleton _) (List.disjoint_singleton.mpr free)
  · simpa [RemoteTable.accept, RemoteEntry.awaiting] using h.awaiting j
  · rcases List.mem_append.mp he with old | new
    · exact h.entry e old
    · obtain rfl := List.mem_singleton.mp new
      exact ⟨fun _ => sends, by simp, ⟨fun mem => absurd (h.held _ mem) free, nofun⟩⟩
  · rw [RemoteTable.accept, List.map_append]
    exact List.mem_append_left _ (h.held tag ht)

/-- R128: the entry whose RREQ may leave is QUEUED, and no entry of its link awaits an answer. -/
theorem of_mayLeave {k : LinkId} (leaves : t.mayLeave k = some e) :
    e ∈ t.entries ∧ e.link = k ∧ e.state = .queued ∧ ∀ x ∈ t.entries, x.link = k → x.awaiting = false := by
  unfold RemoteTable.mayLeave at leaves
  split at leaves
  · cases leaves
  · rename_i idle
    have first := List.find?_some leaves
    rw [Bool.and_eq_true, beq_iff_eq, beq_iff_eq] at first
    refine ⟨List.mem_of_find?_eq_some leaves, first.1, first.2, fun x hx own => ?_⟩
    exact Bool.not_eq_true _ ▸ fun waits => idle (List.any_eq_true.mpr ⟨x, hx, by rw [own, waits, beq_self_eq_true, Bool.and_self]⟩)

theorem RemoteTable.Law.sent (h : t.Law up) {k : LinkId} (leaves : t.mayLeave k = some e) : (t.markSent e.tag).Law up := by
  obtain ⟨he, rfl, queued, idle⟩ := of_mayLeave leaves
  have law := h.entry e he
  refine h.modEntry he (f := fun x => { x with state := .sent }) (fun _ => rfl) (fun _ => rfl) (.inr idle) ?_ h.order fun _ _ => .rfl
  exact ⟨fun _ => law.link (by simp [RemoteEntry.needsUp, queued]), by simpa [queued] using law.timer,
    by simpa [queued] using law.done⟩

/-! ### Entries that become DONE, and late answers -/

/-- R130, R131: a QUEUED or SENT entry becomes DONE, with the orphan mark only if it was SENT. -/
theorem RemoteTable.Law.finished (h : t.Law up) (he : e ∈ t.entries) (waits : e.state = .queued ∨ e.state = .sent) {mark : Bool}
    (marked : mark = true → e.state = .sent) (status : Byte) (data : List Byte) :
    (t.finish e.tag status data mark).Law up := by
  have new : e.tag ∉ t.doneOrder := h.notMem_doneOrder he (by rcases waits with w | w <;> simp [w])
  refine h.modEntry he (f := RemoteEntry.finish status data mark) (fun _ => rfl) (fun _ => rfl) (.inl fun now => ?_) ?_
    (h.order.append (List.nodup_singleton _) (List.disjoint_singleton.mpr new))
    fun x other => by simp [other]
  · simp [RemoteEntry.awaiting, marked now]
  · refine ⟨fun needs => (h.entry e he).link ?_, by simp [RemoteEntry.finish], by simp [RemoteEntry.finish]⟩
    have on : mark = true := by simpa [RemoteEntry.needsUp, RemoteEntry.finish] using needs
    simp [RemoteEntry.needsUp, marked on]

/-- R132: a late answer takes the orphan mark of a DONE entry, or frees the entry. -/
theorem RemoteTable.Law.lateAnswered (h : t.Law up) (he : e ∈ t.entries) : (t.lateAnswer e).Law up := by
  have counted : RemoteTable.Law up { t with lateCount := satAdd t.lateCount 1 } :=
    ⟨h.capacity, h.tags, h.awaiting, h.entry, h.order, h.held⟩
  unfold RemoteTable.lateAnswer
  dsimp only
  split
  · rename_i done
    refine counted.modEntry he (f := fun x => { x with orphanMark := false }) (fun _ => rfl) (fun _ => rfl) (.inl fun now => ?_) ?_
      h.order fun _ _ => .rfl
    · simp [RemoteEntry.awaiting, done] at now
    · have law := h.entry e he
      exact ⟨fun needs => by simp [RemoteEntry.needsUp, done] at needs, law.timer, law.done⟩
  · rename_i other
    refine counted.free h.order fun x => ⟨fun mem => ⟨mem, ?_⟩, And.left⟩
    rintro rfl
    exact h.notMem_doneOrder he other mem

/-! ### Results -/

/-- R135: the entry at the head of the done order becomes ORPHAN or is freed. -/
theorem RemoteTable.Law.delivered (h : t.Law up) (he : e ∈ t.entries) {rest : List Byte} (head : t.doneOrder = e.tag :: rest) :
    (t.deliver e rest).Law up := by
  obtain ⟨gone, order⟩ := List.nodup_cons.mp (head ▸ h.order)
  have law := h.entry e he
  have done : e.state = .done := law.done.mp (head ▸ List.mem_cons_self)
  have others : ∀ x, x ≠ e.tag → (x ∈ rest ↔ x ∈ t.doneOrder) := fun x other => by simp [head, other]
  unfold RemoteTable.deliver
  dsimp only
  split
  · rename_i marked
    refine h.modEntry he (f := fun x => { x with state := .orphan, orphanMark := false, status := 0, data := [] })
      (fun _ => rfl) (fun _ => rfl) (.inl fun _ => by simp [RemoteEntry.awaiting, done, marked]) ?_ order others
    exact ⟨fun _ => law.link (by simp [RemoteEntry.needsUp, marked]), by simpa [done] using law.timer, by simpa using gone⟩
  · refine h.free order fun x => ⟨fun mem => ?_, fun ⟨mem, other⟩ => (others x other).mpr mem⟩
    have other : x ≠ e.tag := fun same => gone (same ▸ mem)
    exact ⟨(others x other).mp mem, other⟩

/-! ### A link that leaves UP -/

theorem endsWith_iff (k : LinkId) (e : RemoteEntry) :
    e.endsWith k = true ↔ e.link = k ∧ (e.state = .queued ∨ e.state = .sent) := by simp [RemoteEntry.endsWith]

theorem state_of_endsWith {k : LinkId} (ends : e.endsWith k = true) : e.state ≠ .done ∧ e.state ≠ .orphan := by
  rcases ((endsWith_iff k e).mp ends).2 with waits | waits <;> simp [waits]

theorem linkDown_ends {k : LinkId} (ends : e.endsWith k = true) : e.linkDown k = e.finish Status.linkDown.code [] false :=
  if_pos ends

theorem linkDown_done {k : LinkId} (own : e.link = k) (done : e.state = .done) :
    e.linkDown k = { e with orphanMark := false } := by
  simp [RemoteEntry.linkDown, RemoteEntry.endsWith, own, done]

theorem linkDown_other {k : LinkId} (other : e.link ≠ k) : e.linkDown k = e := by
  simp [RemoteEntry.linkDown, RemoteEntry.endsWith, other]

/-- R70: every entry keeps its tag and link, and none begins to await an answer. -/
theorem linkDown_keeps (k : LinkId) (e : RemoteEntry) :
    (e.linkDown k).tag = e.tag ∧ (e.linkDown k).link = e.link ∧ ((e.linkDown k).awaiting = true → e.awaiting = true) := by
  unfold RemoteEntry.linkDown
  split
  · exact ⟨rfl, rfl, nofun⟩
  · split
    · rename_i done
      exact ⟨rfl, rfl, fun now => by simp [RemoteEntry.awaiting, done.2] at now⟩
    · exact ⟨rfl, rfl, id⟩

/-- R70: leaving UP leaves no entry that needs link `k` to be UP. -/
theorem RemoteTable.Law.linkDown (h : t.Law up) {k : LinkId} (later : ∀ j, j ≠ k → up j → up' j) : (t.linkDown k).Law up' := by
  have survives : RemoteTable.Law up { t with entries := t.entries.filter fun e => !(e.link == k && e.state == .orphan) } :=
    h.filter h.order (fun _ _ _ => .rfl) fun tag ht => by
      obtain ⟨e, he, rfl⟩ := List.mem_map.mp (h.held tag ht)
      exact ⟨e, he, rfl, by simp [(h.entry e he).done.mp ht]⟩
  have ended : ∀ e ∈ t.entries, (e.tag ∈ (t.entries.filter fun e => e.endsWith k).map RemoteEntry.tag ↔ e.endsWith k = true) := by
    intro e he
    constructor
    · intro mem
      obtain ⟨x, hx, same⟩ := List.mem_map.mp mem
      obtain ⟨hx, ends⟩ := List.mem_filter.mp hx
      exact h.eq_of_tag hx he same ▸ ends
    · exact fun ends => List.mem_map_of_mem (List.mem_filter.mpr ⟨he, ends⟩)
  refine survives.map (fun e => (linkDown_keeps k e).1)
    (survives.awaiting_mono (fun e => (linkDown_keeps k e).2.1) fun e _ => (linkDown_keeps k e).2.2) (fun e he => ?_) ?_
    fun tag ht => ?_
  · obtain ⟨mem, stays⟩ := List.mem_filter.mp he
    have law := h.entry e mem
    have order := ended e mem
    by_cases own : e.link = k
    · by_cases ends : e.endsWith k = true
      · rw [linkDown_ends ends]
        exact ⟨nofun, by simp [RemoteEntry.finish], by simp [RemoteEntry.finish, order, ends]⟩
      · have done : e.state = .done := by
          rw [endsWith_iff] at ends
          cases state : e.state <;> simp_all
        rw [linkDown_done own done]
        exact ⟨fun needs => by simp [RemoteEntry.needsUp, done] at needs, law.timer, by simp [law.done, done]⟩
    · rw [linkDown_other own]
      have stranger : ¬e.endsWith k = true := fun ends => own ((endsWith_iff k e).mp ends).1
      exact ⟨fun needs => later _ own (law.link needs), law.timer, by rw [List.mem_append, order, law.done, or_iff_left stranger]⟩
  · refine h.order.append (h.tags.sublist (List.filter_sublist.map _)) fun tag before after => ?_
    obtain ⟨e, he, rfl⟩ := List.mem_map.mp after
    obtain ⟨he, ends⟩ := List.mem_filter.mp he
    exact h.notMem_doneOrder he (state_of_endsWith ends).1 before
  · rcases List.mem_append.mp ht with before | after
    · exact survives.held tag before
    · obtain ⟨e, he, rfl⟩ := List.mem_map.mp after
      obtain ⟨he, ends⟩ := List.mem_filter.mp he
      exact List.mem_map_of_mem (List.mem_filter.mpr ⟨he, by simp [(state_of_endsWith ends).2]⟩)

end

end Sys2Proof.Machine
end

section
/-! PROOFS. Every step keeps the law of the remote request table: the arbiters, the sessions, received frames, the requests, the step (O56). -/

namespace Sys2Proof.Machine

/-! ### What the law reads -/

/-- The law reads of a state its remote request table and the session state of each link. -/
structure State.SparesRequests (s t : State) : Prop where
  remote : t.remote = s.remote
  session : ∀ k, (t.linkAt k).state = (s.linkAt k).state

theorem sparesRequests_trans {s t u : State} (h : s.SparesRequests t) (h' : t.SparesRequests u) : s.SparesRequests u :=
  ⟨h'.remote.trans h.remote, fun k => (h'.session k).trans (h.session k)⟩

theorem sparesRequests_of_eq {s t : State} (remote : t.remote = s.remote) (links : t.links = s.links) : s.SparesRequests t :=
  ⟨remote, fun k => by rw [State.linkAt, links, State.linkAt]⟩

theorem sparesRequests_of_sameTable {s t : State} (remote : t.remote = s.remote) (same : s.SameTable t) : s.SparesRequests t :=
  ⟨remote, fun k => (same.links k).1⟩

/-- A channel change writes of a link its pending change list alone. -/
theorem sparesRequests_of_carries {s t : State} (h : s.Carries t) : s.SparesRequests t where
  remote := by
    obtain ⟨_, _, _, _, _, _, _, _, rest⟩ := h.rest
    rw [rest]
  session k := by rw [h.link k]

theorem sparesRequests_updateBound (src : ChannelSource) (st : Validity) (v : Bool) (inc : Bool → Nat) (s : State) :
    s.SparesRequests (s.updateBound src st v inc) := by
  unfold State.updateBound
  split
  · exact sparesRequests_of_eq rfl rfl
  · exact sparesRequests_of_carries (update_carries _ _ _ _ _ s)

theorem sparesRequests_linkStatus (k : LinkId) (up : Bool) (s : State) : s.SparesRequests (s.linkStatus k up) :=
  sparesRequests_updateBound _ _ _ _ s

theorem sparesRequests_modLink {s : State} {k : LinkId} {f : Link → Link} (same : (f (s.linkAt k)).state = (s.linkAt k).state) :
    s.SparesRequests (s.modLink k f) where
  remote := rfl
  session j := by
    rw [State.linkAt_modLink]
    split
    · rename_i own
      rw [same, own]
    · rfl

theorem sparesRequests_raise (f : Flag) (d : Byte) (s : State) : s.SparesRequests (s.raise f d) := by
  obtain ⟨_, _, _, _, h⟩ := raise_only f d s
  rw [h]
  exact sparesRequests_of_eq rfl rfl

theorem sparesRequests_stray (k : LinkId) (s : State) : s.SparesRequests (s.stray k) :=
  sparesRequests_trans (sparesRequests_modLink rfl) (sparesRequests_raise _ _ _)

theorem State.RemoteLaw.of_spares {s t : State} (h : s.RemoteLaw) (same : s.SparesRequests t) : t.RemoteLaw := by
  rw [remoteLaw_iff, same.remote]
  exact ((remoteLaw_iff s).mp h).mono fun k up => (same.session k).trans up

/-- The table is changed by an operation that keeps its law. -/
theorem State.RemoteLaw.modRemote {s : State} {f : RemoteTable → RemoteTable}
    (kept : (f s.remote).Law fun k => (s.linkAt k).state = .up) : (s.modRemote f).RemoteLaw :=
  (remoteLaw_iff _).mpr kept

/-- A link record is changed, which does not take the link out of UP. -/
theorem State.RemoteLaw.modLink {s : State} (h : s.RemoteLaw) {k : LinkId} {f : Link → Link}
    (stays : (s.linkAt k).state = .up → (f (s.linkAt k)).state = .up) : (s.modLink k f).RemoteLaw := by
  refine (remoteLaw_iff _).mpr (((remoteLaw_iff s).mp h).mono fun j up => ?_)
  rw [State.linkAt_modLink]
  split
  · rename_i own
    exact stays (own ▸ up)
  · exact up

theorem remoteLaw_resetWith (rate : UartRate) (notices : List Notice) (held : Bool) (pending : List Instr) :
    (State.resetWith rate notices held pending).RemoteLaw := (remoteLaw_iff _).mpr remoteTableLaw_reset

theorem remoteLaw_passTime {s : State} (h : s.RemoteLaw) : s.passTime.RemoteLaw :=
  (remoteLaw_iff _).mpr (((remoteLaw_iff s).mp h).passed.mono fun k up => ((sameTable_passTime s).links k).1.trans up)

/-! ### The arbiters -/

/-- R135, R173: a result begins for the entry at the head of the done order. -/
theorem remoteLaw_hostArbiter {s : State} (h : s.RemoteLaw) : s.hostArbiter.RemoteLaw := by
  have law := (remoteLaw_iff s).mp h
  unfold State.hostArbiter
  split
  · exact h
  split
  · exact h.of_spares (sparesRequests_of_eq rfl rfl)
  split
  · exact h
  split
  · rename_i tag rest head
    unfold State.beginResult
    split
    · rename_i e found
      obtain ⟨he, rfl⟩ := of_entry found
      exact (remoteLaw_iff _).mpr (law.delivered he head)
    · rename_i none
      obtain ⟨e, he, same⟩ := List.mem_map.mp (law.held tag (head ▸ List.mem_cons_self))
      exact absurd same (by simpa using List.find?_eq_none.mp none e he)
  split
  · exact h.of_spares (sparesRequests_of_eq rfl rfl)
  · exact h

theorem remoteLaw_sendNewData {s t : State} {k : LinkId} (h : s.RemoteLaw) (new : s.sendNewData? k = some t) : t.RemoteLaw := by
  unfold State.sendNewData? at new
  dsimp only at new
  split at new
  · cases new
  split at new
  · cases new
    exact h.of_spares (sparesRequests_modLink (sameSession_sendData _ _ { s.linkAt k with slot := .empty }).1)
  split at new
  · rename_i e leaves
    cases new
    have marked : (s.modRemote (RemoteTable.markSent e.tag)).RemoteLaw := .modRemote (((remoteLaw_iff s).mp h).sent leaves)
    exact marked.of_spares (sparesRequests_modLink (sameSession_sendData _ _ _).1)
  split at new <;> cases new
  exact h.of_spares (sparesRequests_modLink (sameSession_sendChanges _).1)

theorem remoteLaw_linkArbiter {s : State} (h : s.RemoteLaw) (k : LinkId) : (s.linkArbiter k).RemoteLaw := by
  rcases linkArbiter_cases s k with e | e | ⟨p, e⟩ | new | e
  · rwa [e]
  · rw [e]
    exact h.of_spares (sparesRequests_modLink (sameSession_sendHello _ _).1)
  · rw [e]
    exact h.of_spares (sparesRequests_modLink (sameSession_resend p _).1)
  · exact remoteLaw_sendNewData h new
  · rw [e]
    exact h.of_spares (sparesRequests_modLink (sameSession_sendAck _).1)

theorem remoteLaw_linkArbiters (ks : List LinkId) {s : State} (h : s.RemoteLaw) :
    (ks.foldl (fun t k => t.linkArbiter k) s).RemoteLaw := by
  induction ks generalizing s with
  | nil => exact h
  | cons k ks ih => exact ih (remoteLaw_linkArbiter h k)

theorem remoteLaw_settle {s : State} (h : s.RemoteLaw) : s.settle.RemoteLaw :=
  remoteLaw_linkArbiters allLinks (remoteLaw_hostArbiter h)

/-! ### Sessions -/

/-- R70: the requests of link `k` are resolved and its slot is emptied, where the other links have kept their states. -/
theorem remoteLaw_resolve {s t : State} (h : s.RemoteLaw) {k : LinkId} (remote : t.remote = s.remote)
    (others : ∀ j, j ≠ k → (t.linkAt j).state = (s.linkAt j).state) :
    ((t.modRemote (RemoteTable.linkDown k)).modLink k fun l => { l with slot := .empty }).RemoteLaw := by
  have resolved : (t.modRemote (RemoteTable.linkDown k)).RemoteLaw :=
    .modRemote (remote ▸ ((remoteLaw_iff s).mp h).linkDown fun j other up => (others j other).trans up)
  exact resolved.of_spares (sparesRequests_modLink rfl)

/-- R67 to R70: whatever state link `k` takes, its requests are resolved. -/
theorem remoteLaw_leaveUp {s : State} (h : s.RemoteLaw) (k : LinkId) (move : Link → Link) : (s.leaveUp k move).RemoteLaw := by
  unfold State.leaveUp
  have told (t : State) : t.SparesRequests ((t.staleImports k).linkStatus k false) :=
    sparesRequests_trans (sparesRequests_of_carries (staleImports_carries k t)) (sparesRequests_linkStatus k false _)
  refine remoteLaw_resolve h (told _).remote fun j other => ?_
  rw [(told _).session j, State.linkAt_modLink, if_neg other]

theorem remoteLaw_enterFault {s : State} (h : s.RemoteLaw) (k : LinkId) (cause : FaultCause) : (s.enterFault k cause).RemoteLaw := by
  unfold State.enterFault
  refine State.RemoteLaw.of_spares ?_ (sparesRequests_raise _ _ _)
  split
  · exact remoteLaw_leaveUp h k _
  · exact h.modLink fun up => absurd up ‹_›

theorem remoteLaw_enterUp {s : State} (h : s.RemoteLaw) (k : LinkId) : (s.enterUp k).RemoteLaw := by
  have moved : (s.modLink k (Link.toUp (s.snapshot (s.linkAt k).exported))).RemoteLaw := h.modLink fun _ => rfl
  exact (moved.of_spares (sparesRequests_linkStatus k true _)).of_spares (sparesRequests_raise _ _ _)

theorem remoteLaw_helloInSeeking {s : State} (h : s.RemoteLaw) (k : LinkId) (hello : Hello) :
    (s.helloInSeeking k hello).RemoteLaw := by
  have recorded : (s.modLink k (Link.recordPeer hello)).RemoteLaw := h.of_spares (sparesRequests_modLink rfl)
  unfold State.helloInSeeking
  dsimp only
  split
  · exact h
  split
  · exact remoteLaw_enterFault recorded k _
  split
  · exact remoteLaw_enterFault recorded k _
  split
  · exact remoteLaw_enterUp recorded k
  · exact recorded

theorem remoteLaw_helloInUp {s : State} (h : s.RemoteLaw) (k : LinkId) (hello : Hello) : (s.helloInUp k hello).RemoteLaw := by
  unfold State.helloInUp
  split
  · split
    · exact h
    · exact h.of_spares (sparesRequests_modLink rfl)
  · split
    · exact h
    · exact remoteLaw_helloInSeeking ((remoteLaw_leaveUp h k _).of_spares (sparesRequests_raise _ _ _)) k hello

/-! ### Received frames -/

/-- R130, R132, R133: an RRES ends the SENT entry that it matches, or is a late answer to one, or a stray. -/
theorem remoteLaw_takeRres {s : State} (h : s.RemoteLaw) (k : LinkId) (tag kind status : Byte) (data : List Byte) :
    (s.takeRres k tag kind status data).RemoteLaw := by
  have law := (remoteLaw_iff s).mp h
  have stray : (s.stray k).RemoteLaw := h.of_spares (sparesRequests_stray k s)
  unfold State.takeRres
  split
  · exact stray
  · rename_i e found
    obtain ⟨he, rfl⟩ := of_match found
    have late : ((s.modRemote (RemoteTable.lateAnswer e)).raise .lateReply 0).RemoteLaw :=
      .of_spares (.modRemote (law.lateAnswered he)) (sparesRequests_raise _ _ _)
    split
    · rename_i sent
      exact .modRemote (law.finished he (.inr sent) (fun marked => Bool.noConfusion marked) status data)
    · exact stray
    · split
      · exact late
      · exact stray
    · exact late

theorem remoteLaw_takeRreq {s : State} (h : s.RemoteLaw) (k : LinkId) (tag kind : Byte) (body : List Byte) :
    (s.takeRreq k tag kind body).RemoteLaw := by
  rw [takeRreq_eq]
  split
  · exact h.of_spares (sparesRequests_modLink rfl)
  · exact h.of_spares (sparesRequests_stray k s)

theorem sparesRequests_applyEntry (k : LinkId) (s : State) (e : ChangeEntry) : s.SparesRequests (s.applyEntry k e) := by
  unfold State.applyEntry
  split
  · exact sparesRequests_of_carries (update_carries _ _ _ _ _ s)
  · exact sparesRequests_stray k s

theorem remoteLaw_applyEntries {s : State} (h : s.RemoteLaw) (k : LinkId) (es : List ChangeEntry) :
    (es.foldl (State.applyEntry k) s).RemoteLaw := by
  induction es generalizing s with
  | nil => exact h
  | cons e es ih => exact ih (h.of_spares (sparesRequests_applyEntry k s e))

theorem remoteLaw_handOn {s : State} (h : s.RemoteLaw) (k : LinkId) (kind : DataKind) (body : List Byte) :
    (s.handOn k kind body).RemoteLaw := by
  unfold State.handOn
  split
  · exact remoteLaw_applyEntries h k _
  · split
    · exact remoteLaw_takeRreq h _ _ _ _
    · exact h
  · split
    · exact remoteLaw_takeRres h _ _ _ _ _
    · exact h

theorem remoteLaw_classify {s : State} (h : s.RemoteLaw) (k : LinkId) (kind : DataKind) (seq : Byte) (body : List Byte) :
    (s.classify k kind seq body).RemoteLaw := by
  unfold State.classify
  dsimp only
  split
  · exact remoteLaw_handOn (h.of_spares (sparesRequests_modLink rfl)) k kind body
  · split <;> exact h.of_spares (sparesRequests_modLink rfl)

theorem remoteLaw_handleInSeeking {s : State} (h : s.RemoteLaw) (k : LinkId) (f : LinkFrame) :
    (s.handleInSeeking k f).RemoteLaw := by
  unfold State.handleInSeeking
  split
  · split
    · exact remoteLaw_helloInSeeking h k _
    · exact h
  · exact h

theorem remoteLaw_handleInUp {s : State} (h : s.RemoteLaw) (k : LinkId) (f : LinkFrame) : (s.handleInUp k f).RemoteLaw := by
  unfold State.handleInUp
  split
  · split
    · exact remoteLaw_helloInUp h k _
    · exact h
  · split
    · exact remoteLaw_classify h k _ _ _
    · exact h

theorem remoteLaw_takeFrame {s : State} (h : s.RemoteLaw) (k : LinkId) (f : LinkFrame) (good : Bool) :
    (s.takeFrame k f good).RemoteLaw := by
  have bad : (s.badFrame k).RemoteLaw :=
    h.of_spares (sparesRequests_trans (sparesRequests_modLink rfl) (sparesRequests_raise _ _ _))
  unfold State.takeFrame
  split
  · exact h
  · exact h
  · split
    · exact remoteLaw_handleInSeeking (h.of_spares (sparesRequests_modLink rfl)) k f
    · exact bad
  · have taken : (Link.takeAck f.ack
        { (s.linkAt k).countGood with silenceTimer := some (ofTenMs (s.linkAt k).config.silence) }).state = (s.linkAt k).state :=
      (sameSession_takeAck _ _).1
    split
    · exact remoteLaw_handleInUp (h.of_spares (sparesRequests_modLink taken)) k f
    · exact bad

theorem remoteLaw_linkByte {s : State} (h : s.RemoteLaw) (k : LinkId) (b : Byte) : (s.linkByte k b).RemoteLaw := by
  unfold State.linkByte
  dsimp only
  split
  · exact h.of_spares (sparesRequests_modLink rfl)
  · exact remoteLaw_takeFrame (h.of_spares (sparesRequests_modLink rfl)) k _ _

/-! ### Timers -/

theorem remoteLaw_silenceExpiry {s : State} (h : s.RemoteLaw) (k : LinkId) : (s.silenceExpiry k).RemoteLaw :=
  (remoteLaw_leaveUp h k _).of_spares (sparesRequests_raise _ _ _)

/-- R57: a hold-off runs in FAULT alone, so that its expiry takes no link out of UP. -/
theorem remoteLaw_holdOffExpiry {s : State} (h : s.RemoteLaw) {k : LinkId} (fault : (s.linkAt k).state = .fault) :
    (s.modLink k Link.holdOffExpiry).RemoteLaw := h.modLink fun up => by rw [fault] at up; cases up

theorem remoteLaw_retransmitExpiry {s : State} (h : s.RemoteLaw) (k : LinkId) : (s.retransmitExpiry k).RemoteLaw := by
  unfold State.retransmitExpiry
  dsimp only
  split
  · exact remoteLaw_enterFault (h.of_spares (sparesRequests_modLink rfl)) k _
  · exact h.of_spares (sparesRequests_trans (sparesRequests_modLink rfl) (sparesRequests_modLink rfl))

/-- R127, R131: the entry whose timer runs out is QUEUED or SENT, and keeps awaiting its answer if it was SENT. -/
theorem remoteLaw_entryTimeout {s : State} (h : s.RemoteLaw) {tag : Byte} (out : s.entryTimer tag = some 0) :
    (s.entryTimeout tag).RemoteLaw := by
  unfold State.entryTimer at out
  unfold State.entryTimeout
  split
  · exact h
  · rename_i e found
    rw [found] at out
    have law := (remoteLaw_iff s).mp h
    obtain ⟨he, rfl⟩ := of_entry found
    have waits := (law.entry e he).timer.mp (Option.isSome_of_eq_some out)
    exact .of_spares (.modRemote (law.finished he waits (fun mark => by simpa using mark) _ _)) (sparesRequests_raise _ _ _)

end Sys2Proof.Machine
end

section
/-! PROOFS. Every request and every command keep the law of the remote request table: O56. -/

namespace Sys2Proof.Machine

/-! ### The rules of the requests -/

/-- A rule keeps the law of the remote request table where it carries its request out. -/
def RequestRule.KeepsRemoteLaw (rule : RequestRule) : Prop :=
  ∀ body s t data, s.RemoteLaw → rule body s = .ok (t, data) → t.RemoteLaw

/-- The rules that write neither the remote request table nor a link: each reports, or writes another block. -/
def linkFreeRules : List RequestRule :=
  [identifyRule, statusRule, resetRule, setNodeRule, channelWatchRule, channelReadRule, lineSetRule, lineReadRule,
    combinerReadRule, linkStatusRule, eventsReadRule, eventsClearRule, noticeConfigRule, alertConfigRule, hostStatsRule]

/-- A rule of that list that carries its request out has table and links in every branch as it found them. -/
theorem linkFreeRules_leave {rule : RequestRule} (mem : rule ∈ linkFreeRules) {body : List Byte} {s t : State} {data : List Byte}
    (ht : rule body s = .ok (t, data)) : t.remote = s.remote ∧ t.links = s.links := by
  simp only [linkFreeRules, List.mem_cons, List.not_mem_nil, or_false] at mem
  rcases mem with rfl | rfl | rfl | rfl | rfl | rfl | rfl | rfl | rfl | rfl | rfl | rfl | rfl | rfl | rfl
  all_goals
    simp only [identifyRule, statusRule, resetRule, setNodeRule, channelWatchRule, channelReadRule, lineSetRule, lineReadRule,
      combinerReadRule, linkStatusRule, eventsReadRule, eventsClearRule, noticeConfigRule, alertConfigRule, hostStatsRule] at ht
    repeat' split at ht
    all_goals cases ht
    all_goals exact ⟨rfl, rfl⟩

theorem linkFreeRules_keep {rule : RequestRule} (mem : rule ∈ linkFreeRules) : rule.KeepsRemoteLaw := fun _ _ _ _ h ht =>
  have ⟨remote, links⟩ := linkFreeRules_leave mem ht
  h.of_spares (sparesRequests_of_eq remote links)

/-- R77, R78, R103, R105: the settings, the exported channels and the counters of a link take new values in any state. -/
theorem linkSettingRules_keep {rule : RequestRule} (mem : rule ∈ [linkConfigRule, linkPolicyRule, linkExportRule, linkStatsRule]) :
    rule.KeepsRemoteLaw := by
  intro body s t data h ht
  simp only [List.mem_cons, List.not_mem_nil, or_false] at mem
  rcases mem with rfl | rfl | rfl | rfl
  all_goals
    simp only [linkConfigRule, linkPolicyRule, linkExportRule, linkStatsRule] at ht
    repeat' split at ht
    all_goals cases ht
  · exact h.of_spares (sparesRequests_modLink rfl)
  · exact h.of_spares (sparesRequests_modLink rfl)
  · exact h.of_spares (sparesRequests_modLink rfl)
  · exact h.of_spares (sparesRequests_modLink rfl)
  · exact h

/-- R13, R15: a channel takes or leaves its source, and an update. -/
theorem sparesRequests_sourced (c : ChannelId) (x : Channel) (st : Validity) (v : Bool) (inc : Nat) (s : State) :
    s.SparesRequests (State.change c st v inc (s.setChan c x)) := by
  have sourced : s.SparesRequests (s.setChan c x) := sparesRequests_of_eq rfl rfl
  exact sparesRequests_trans sourced (sparesRequests_of_carries (change_carries c st v inc _))

theorem channelBindRule_keepsRemoteLaw : RequestRule.KeepsRemoteLaw channelBindRule := by
  intro body s t data h ht
  unfold channelBindRule at ht
  repeat' split at ht
  all_goals cases ht
  exact h.of_spares (sparesRequests_sourced _ _ _ _ _ s)

theorem channelUnbindRule_keepsRemoteLaw : RequestRule.KeepsRemoteLaw channelUnbindRule := by
  intro body s t data h ht
  unfold channelUnbindRule at ht
  repeat' split at ht
  all_goals cases ht
  unfold State.unbind
  split
  · exact h
  · exact h.of_spares (sparesRequests_sourced _ _ _ _ _ s)

theorem channelSetRule_keepsRemoteLaw {effect : ChannelId → State → State} (carries : ∀ c (s : State), s.Carries (effect c s)) :
    RequestRule.KeepsRemoteLaw (channelSetRule effect) := by
  intro body s t data h ht
  unfold channelSetRule at ht
  repeat' split at ht
  all_goals cases ht
  exact h.of_spares (sparesRequests_of_carries (carries _ s))

/-- A line takes a record and gives its channel a value. -/
theorem sparesRequests_lineUpdate (n : LineId) (x : Line) (v : Bool) (inc : Bool → Nat) (s : State) :
    s.SparesRequests ((s.setLine n x).updateBound (.line n) .valid v inc) := by
  have written : s.SparesRequests (s.setLine n x) := sparesRequests_of_eq rfl rfl
  exact sparesRequests_trans written (sparesRequests_updateBound _ _ _ _ _)

theorem sparesRequests_acceptEdge (n : LineId) (s : State) : s.SparesRequests (s.acceptEdge n) := by
  rw [acceptEdge_eq]
  exact sparesRequests_lineUpdate _ _ _ _ s

theorem sparesRequests_sampleLine (n : LineId) (level : Bool) (s : State) : s.SparesRequests (s.sampleLine n level) := by
  have sampled (x : Line) : s.SparesRequests (s.setLine n x) := sparesRequests_of_eq rfl rfl
  unfold State.sampleLine
  dsimp only
  split
  · exact sparesRequests_trans (sampled _) (sparesRequests_acceptEdge n _)
  · exact sampled _

theorem lineConfigRule_keepsRemoteLaw : RequestRule.KeepsRemoteLaw lineConfigRule := by
  intro body s t data h ht
  unfold lineConfigRule at ht
  repeat' split at ht
  all_goals cases ht
  unfold State.configureLine
  dsimp only
  split
  · exact h.of_spares (sparesRequests_lineUpdate _ _ _ _ s)
  · exact h.of_spares (sparesRequests_of_eq rfl rfl)

theorem combinerConfigRule_keepsRemoteLaw : RequestRule.KeepsRemoteLaw combinerConfigRule := by
  intro body s t data h ht
  unfold combinerConfigRule at ht
  dsimp only at ht
  repeat' split at ht
  all_goals cases ht
  have written (m : CombinerId) (cb : Combiner) : (s.setComb m cb).RemoteLaw := h.of_spares (sparesRequests_of_eq rfl rfl)
  exact (written _ _).of_spares (sparesRequests_of_carries (giveCombinerUpdate_carries _ _ _))

theorem linkControlRule_keepsRemoteLaw {act : LinkId → State → Except Status State}
    (keeps : ∀ k s t, s.RemoteLaw → act k s = .ok t → t.RemoteLaw) : RequestRule.KeepsRemoteLaw (linkControlRule act) := by
  intro body s t data h ht
  unfold linkControlRule at ht
  split at ht
  · split at ht
    · generalize acted : act _ _ = verdict at ht
      cases verdict with
      | error e => cases ht
      | ok u => cases ht; exact keeps _ _ _ h acted
    · cases ht
  · cases ht

/-- R74: an enabled link was OFF. -/
theorem enableLink_keepsRemoteLaw (k : LinkId) (s t : State) (h : s.RemoteLaw) (ht : enableLink k s = .ok t) : t.RemoteLaw := by
  unfold enableLink at ht
  split at ht
  · cases ht
  · rename_i off
    split at ht <;> cases ht
    exact h.modLink fun up => absurd (by rw [up]; nofun) off

theorem disableLink_keepsRemoteLaw (k : LinkId) (s t : State) (h : s.RemoteLaw) (ht : disableLink k s = .ok t) : t.RemoteLaw := by
  unfold disableLink at ht
  split at ht <;> obtain rfl := Except.ok.inj ht
  · exact h
  · exact remoteLaw_leaveUp h k _
  · exact h.modLink fun up => absurd up ‹_›

theorem restartLink_keepsRemoteLaw (k : LinkId) (s t : State) (h : s.RemoteLaw) (ht : restartLink k s = .ok t) : t.RemoteLaw := by
  unfold restartLink at ht
  split at ht
  · cases ht
  all_goals obtain rfl := Except.ok.inj ht
  · exact remoteLaw_leaveUp h k _
  · exact h.modLink fun up => absurd up ‹_›

/-- R126: REMOTE_SEND accepts an entry of a link that is UP while a place is free. -/
theorem remoteSendRule_keepsRemoteLaw : RequestRule.KeepsRemoteLaw remoteSendRule := by
  intro body s t data h ht
  unfold remoteSendRule at ht
  repeat' split at ht
  all_goals cases ht
  rename_i up room
  exact .modRemote (((remoteLaw_iff s).mp h).accepted (not_not.mp up) (Nat.lt_of_not_le room) _ _ _)

/-! ### Events, requests, steps -/

theorem event_keepsRemoteLaw {occurs : Bool} {effect : State → State} {s t : State} (h : s.RemoteLaw)
    (keeps : occurs = true → (effect s).RemoteLaw) (ht : event occurs effect s = .next t) : t.RemoteLaw := by
  rcases event_cases occurs effect s with idle | ⟨-, on, taken⟩
  · rw [idle] at ht
    cases ht
    exact h
  · rw [taken] at ht
    cases ht
    exact remoteLaw_settle (keeps on)

theorem expiry_keepsRemoteLaw {timer : Timer} {effect : State → State} {s t : State} (h : s.RemoteLaw)
    (keeps : timer = some 0 → (effect s).RemoteLaw) (ht : expiry timer effect s = .next t) : t.RemoteLaw :=
  event_keepsRemoteLaw h (fun on => keeps ((ranOut_iff timer).mp on)) ht

theorem request_keepsRemoteLaw {serves : HostFrame → Bool} {rule : RequestRule} {s t : State} (h : s.RemoteLaw)
    (keeps : rule.KeepsRemoteLaw) (ht : request serves rule s = .next t) : t.RemoteLaw := by
  have answered (g : Grant) (status : Status) (data : List Byte) {u : State} (hu : u.RemoteLaw) :
      (u.answer g status data).RemoteLaw := by
    obtain ⟨_, _, only⟩ := answer_only g status data u
    exact hu.of_spares (sparesRequests_of_sameTable (by rw [only]) (sameTable_answer g status data u))
  rcases request_cases serves rule s with idle | ⟨g, -, -, -, granted⟩
  · rw [idle] at ht
    cases ht
    exact h
  · rw [granted] at ht
    cases ht
    have taken : (s.takeGrant g).RemoteLaw := by
      obtain ⟨_, only⟩ := takeGrant_only g s
      rw [only]
      exact h.of_spares (sparesRequests_of_eq rfl rfl)
    apply remoteLaw_settle
    rcases execute_cases g rule s with ⟨u, data, judged, acted⟩ | ⟨status, -, refused⟩
    · rw [acted]
      apply answered
      rcases judge_cases g rule (s.takeGrant g) with e | e | e | ⟨-, -, -, e⟩ <;> rw [e] at judged
      · cases judged
      · cases judged
      · cases judged
      · exact keeps _ _ _ _ taken judged
    · rw [refused]
      exact answered _ _ _ taken

/-- A request row whose rule writes neither the remote request table nor a link. -/
theorem request_sparesRemoteLaw {serves : HostFrame → Bool} {rule : RequestRule} {s t : State} (h : s.RemoteLaw)
    (ht : request serves rule s = .next t) (mem : rule ∈ linkFreeRules := by simp [linkFreeRules]) : t.RemoteLaw :=
  request_keepsRemoteLaw h (linkFreeRules_keep mem) ht

theorem remoteLaw_hostTxEnd {s : State} (h : s.RemoteLaw) : s.hostTxEnd.RemoteLaw := by
  unfold State.hostTxEnd
  dsimp only
  split
  · exact remoteLaw_resetWith _ _ _ _
  · exact h.of_spares (sparesRequests_of_eq rfl rfl)

/-- Every command keeps the law of the remote request table. -/
theorem exec_keepsRemoteLaw (i : Instr) {s t : State} (h : s.RemoteLaw) (links : s.LinkLaw) (ht : exec i s = .next t) :
    t.RemoteLaw := by
  have modLink {k : LinkId} {f : Link → Link} (same : (f (s.linkAt k)).state = (s.linkAt k).state) : (s.modLink k f).RemoteLaw :=
    h.of_spares (sparesRequests_modLink same)
  have hostByte (b : Byte) : (s.hostByte b).RemoteLaw := by
    obtain ⟨_, _, _, _, _, only⟩ := hostByte_only b s
    rw [only]
    exact h.of_spares (sparesRequests_of_eq rfl rfl)
  have framingError : s.framingError.RemoteLaw := by
    obtain ⟨_, _, _, _, _, only⟩ := framingError_only s
    rw [only]
    exact h.of_spares (sparesRequests_of_eq rfl rfl)
  cases i with
  | powerResetEntry => cases ht; exact remoteLaw_resetWith _ _ _ _
  | powerResetExit rate1 rate0 => cases ht; exact remoteLaw_settle (remoteLaw_resetWith _ _ _ _)
  | lineSample n level => exact event_keepsRemoteLaw h (fun _ => h.of_spares (sparesRequests_sampleLine n level s)) ht
  | debounceExpiry n => exact expiry_keepsRemoteLaw h (fun _ => h.of_spares (sparesRequests_acceptEdge n s)) ht
  | hostFrameReceived b => exact event_keepsRemoteLaw h (fun _ => hostByte b) ht
  | hostBadLength b => exact event_keepsRemoteLaw h (fun _ => hostByte b) ht
  | hostByteReceived b => exact event_keepsRemoteLaw h (fun _ => hostByte b) ht
  | hostGapTimerExpiry => exact expiry_keepsRemoteLaw h (fun _ => framingError) ht
  | hostCharacterError => exact event_keepsRemoteLaw h (fun _ => framingError) ht
  | hostTxEnd => exact event_keepsRemoteLaw h (fun _ => remoteLaw_hostTxEnd h) ht
  | unknownKindRequest =>
    exact request_keepsRemoteLaw (serves := fun r => !isRequestKind r.kind) (rule := unknownKindRule) h (fun _ _ _ _ _ ht => nomatch ht) ht
  | identify => exact request_sparesRemoteLaw h ht
  | status => exact request_sparesRemoteLaw h ht
  | reset => exact request_sparesRemoteLaw h ht
  | setNode => exact request_sparesRemoteLaw h ht
  | channelBind => exact request_keepsRemoteLaw h channelBindRule_keepsRemoteLaw ht
  | channelUnbind => exact request_keepsRemoteLaw h channelUnbindRule_keepsRemoteLaw ht
  | channelSetDrive0 => exact request_keepsRemoteLaw h (channelSetRule_keepsRemoteLaw fun _ _ => update_carries _ _ _ _ _ _) ht
  | channelSetDrive1 => exact request_keepsRemoteLaw h (channelSetRule_keepsRemoteLaw fun _ _ => update_carries _ _ _ _ _ _) ht
  | channelSetPulse => exact request_keepsRemoteLaw h (channelSetRule_keepsRemoteLaw fun _ _ => update_carries _ _ _ _ _ _) ht
  | channelSetWithdraw => exact request_keepsRemoteLaw h (channelSetRule_keepsRemoteLaw fun _ _ => update_carries _ _ _ _ _ _) ht
  | channelWatch => exact request_sparesRemoteLaw h ht
  | channelRead => exact request_sparesRemoteLaw h ht
  | lineConfig => exact request_keepsRemoteLaw h lineConfigRule_keepsRemoteLaw ht
  | lineSet => exact request_sparesRemoteLaw h ht
  | lineRead => exact request_sparesRemoteLaw h ht
  | combinerConfig => exact request_keepsRemoteLaw h combinerConfigRule_keepsRemoteLaw ht
  | combinerRead => exact request_sparesRemoteLaw h ht
  | linkControlEnable => exact request_keepsRemoteLaw h (linkControlRule_keepsRemoteLaw enableLink_keepsRemoteLaw) ht
  | linkControlDisable => exact request_keepsRemoteLaw h (linkControlRule_keepsRemoteLaw disableLink_keepsRemoteLaw) ht
  | linkControlRestart => exact request_keepsRemoteLaw h (linkControlRule_keepsRemoteLaw restartLink_keepsRemoteLaw) ht
  | linkConfig => exact request_keepsRemoteLaw h (linkSettingRules_keep (by simp)) ht
  | linkPolicy => exact request_keepsRemoteLaw h (linkSettingRules_keep (by simp)) ht
  | linkStatus => exact request_sparesRemoteLaw h ht
  | linkExport => exact request_keepsRemoteLaw h (linkSettingRules_keep (by simp)) ht
  | linkStats => exact request_keepsRemoteLaw h (linkSettingRules_keep (by simp)) ht
  | remoteSend => exact request_keepsRemoteLaw h remoteSendRule_keepsRemoteLaw ht
  | eventsRead => exact request_sparesRemoteLaw h ht
  | eventsClear => exact request_sparesRemoteLaw h ht
  | noticeConfig => exact request_sparesRemoteLaw h ht
  | alertConfig => exact request_sparesRemoteLaw h ht
  | hostStats => exact request_sparesRemoteLaw h ht
  | linkFrameReceived k b => exact event_keepsRemoteLaw h (fun _ => remoteLaw_linkByte h k b) ht
  | linkByteReceived k b => exact event_keepsRemoteLaw h (fun _ => remoteLaw_linkByte h k b) ht
  | linkFramerGapExpiry k => exact expiry_keepsRemoteLaw h (fun _ => modLink rfl) ht
  | helloTimerExpiry k => exact expiry_keepsRemoteLaw h (fun _ => modLink rfl) ht
  | keepaliveTimerExpiry k => exact expiry_keepsRemoteLaw h (fun _ => modLink rfl) ht
  | silenceTimerExpiry k => exact expiry_keepsRemoteLaw h (fun _ => remoteLaw_silenceExpiry h k) ht
  | holdOffExpiry k =>
    exact expiry_keepsRemoteLaw h (fun out => remoteLaw_holdOffExpiry h ((links k).session.holdOff (by rw [out]; rfl))) ht
  | retransmitTimerExpiry k => exact expiry_keepsRemoteLaw h (fun _ => remoteLaw_retransmitExpiry h k) ht
  | ackTimerExpiry k => exact expiry_keepsRemoteLaw h (fun _ => modLink rfl) ht
  | linkTxEnd k => exact event_keepsRemoteLaw h (fun _ => modLink rfl) ht
  | remoteEntryTimeout tag => exact expiry_keepsRemoteLaw h (fun out => remoteLaw_entryTimeout h out) ht

theorem remoteLaw_idle {s : State} (h : s.RemoteLaw) : s.idle.RemoteLaw := by
  unfold State.idle
  split
  · exact h
  · exact remoteLaw_passTime (remoteLaw_settle h)

/-- Settles O56: each operation of the table keeps its law (`RemoteTable.Law`), no link leaves UP but by `State.leaveUp`, and each
command is made of these. -/
theorem everyStepKeepsRemoteLaw : Obligations.EveryStepKeepsRemoteLaw := by
  intro s t h links ht
  unfold step at ht
  split at ht
  · cases ht
    exact remoteLaw_idle h
  · rename_i rest _
    exact exec_keepsRemoteLaw (s := { s with pending := rest }) _ (h.of_spares (sparesRequests_of_eq rfl rfl)) links ht

end Sys2Proof.Machine
end

section
/-! PROOFS. The statements about remote requests: who may ask for what, REMOTE_SEND, the ends of an entry, and the results that the host is sent: O10, O44, O45, O48. -/

namespace Sys2Proof.Machine

/-! ### The policy check -/

section
variable {k : LinkId} {kind : Byte} {body : List Byte}

theorem lowestPolicy_observe (h : kind ∈ ([0x01, 0x02, 0x09, 0x0C, 0x0E, 0x12, 0x16] : List Byte)) :
    lowestPolicy k kind body = some .observe := by
  simp only [List.mem_cons, List.not_mem_nil, or_false] at h
  rcases h with rfl | rfl | rfl | rfl | rfl | rfl | rfl <;> rfl

theorem lowestPolicy_operate (h : kind ∈ ([0x07, 0x0B, 0x17] : List Byte)) : lowestPolicy k kind body = some .operate := by
  simp only [List.mem_cons, List.not_mem_nil, or_false] at h
  rcases h with rfl | rfl | rfl <;> rfl

theorem lowestPolicy_full (h : kind ∈ ([0x04, 0x05, 0x06, 0x08, 0x0A, 0x0D, 0x13, 0x10, 0x18, 0x19] : List Byte)) :
    lowestPolicy k kind body = some .full := by
  simp only [List.mem_cons, List.not_mem_nil, or_false] at h
  rcases h with rfl | rfl | rfl | rfl | rfl | rfl | rfl | rfl | rfl | rfl <;> rfl

theorem lowestPolicy_never (h : kind ∈ ([0x03, 0x15, 0x11] : List Byte)) : lowestPolicy k kind body = none := by
  simp only [List.mem_cons, List.not_mem_nil, or_false] at h
  rcases h with rfl | rfl | rfl <;> rfl

end

/-- R142: a clear flag of 0 is "without clear", every other value "with clear". -/
theorem rank_clearPolicy (clear : Byte) : (clearPolicy (some clear)).rank = if clear = 0 then 1 else 2 := by
  unfold clearPolicy
  split
  · rename_i zero
    cases zero
    rfl
  · rename_i other
    exact (if_neg fun zero => other (congrArg some zero)).symm

/-- R142: LINK_CONTROL from a peer names a link other than the one it arrives on. -/
theorem lowestPolicy_linkControl (k : LinkId) (l a : Byte) :
    lowestPolicy k 0x0F [l, a] = if l.toNat = k.val then none else some .full := by
  have arrival : l = byteOfNat k.val ↔ l.toNat = k.val := by
    rw [byteOfNat, BitVec.toNat_eq, BitVec.toNat_ofNat, Nat.mod_eq_of_lt (k.isLt.trans (by decide))]
  simp only [← arrival]
  exact if_congr (by simp) rfl rfl

theorem rank_le (p : Policy) : p.rank ≤ 3 := by cases p <;> decide

theorem permits_of_lowestPolicy {s : State} {k : LinkId} {r : HostFrame} {p : Policy}
    (h : lowestPolicy k r.kind r.body = some p) : s.permits ⟨.slot k, r⟩ = decide (p.rank ≤ (s.linkAt k).policy.rank) := by
  simp only [State.permits, h]

theorem permits_never {s : State} {k : LinkId} {r : HostFrame} (h : lowestPolicy k r.kind r.body = none) :
    s.permits ⟨.slot k, r⟩ = false := by
  simp only [State.permits, h]

/-- Settles O10, by the lowest policy that allows each kind. -/
theorem policyTable : Obligations.PolicyTable := by
  refine ⟨rfl, fun _ _ => rfl, fun s k r => ?_⟩
  have full : Policy.full.rank ≤ (s.linkAt k).policy.rank ↔ (s.linkAt k).policy.rank = 3 :=
    ⟨fun h => Nat.le_antisymm (rank_le _) h, Nat.le_of_eq ∘ Eq.symm⟩
  have flagged {clear : Byte} (h : lowestPolicy k r.kind r.body = some (clearPolicy (some clear))) :
      s.permits ⟨.slot k, r⟩ =
        decide (if clear = 0 then 1 ≤ (s.linkAt k).policy.rank else 2 ≤ (s.linkAt k).policy.rank) := by
    rw [permits_of_lowestPolicy h, rank_clearPolicy]
    split <;> rfl
  refine ⟨fun kind => permits_of_lowestPolicy (lowestPolicy_observe kind), fun kind l clear body => flagged ?_,
    fun kind clear body => flagged ?_, fun kind => permits_of_lowestPolicy (lowestPolicy_operate kind), fun kind => ?_,
    fun kind l a body => ?_, fun kind => permits_never (lowestPolicy_never kind)⟩
  · rw [kind, body]
    rfl
  · rw [kind, body]
    rfl
  · rw [permits_of_lowestPolicy (lowestPolicy_full kind), decide_eq_decide]
    exact full
  · have lowest := lowestPolicy_linkControl k l a
    rw [← kind, ← body] at lowest
    by_cases arrival : l.toNat = k.val
    · rw [permits_never (lowest.trans (if_pos arrival))]
      simp [arrival]
    · rw [permits_of_lowestPolicy (lowest.trans (if_neg arrival)), decide_eq_decide, full]
      exact (and_iff_left arrival).symm

/-! ### REMOTE_SEND -/

/-- R199: the body of a REMOTE_SEND has 3 to 60 bytes. -/
theorem lengthFits_remoteSend (kb timeout kind : Byte) {body : List Byte} (short : body.length ≤ 57) :
    lengthFits 0x15 (kb :: timeout :: kind :: body) = true := by
  have most : (kb :: timeout :: kind :: body).length ≤ 60 := Nat.add_le_add_right short 3
  simpa [lengthFits] using most

/-- Settles O44: the checks in order with `RemoteTable.accept` after them, and the tag by the search for it (`freshTag_spec`). -/
theorem remoteSendAcceptsAnEntry : Obligations.RemoteSendAcceptsAnEntry := by
  refine ⟨fun s g kb timeout kind body h short => ?_, fun t few => ?_⟩
  · rw [exec, execRemoteSend, request_of_grants h (ofKind_of_grants h) rfl (lengthFits_remoteSend kb timeout kind short),
      remoteSendRule]
    congr 1
    have remote : (s.takeGrant g).remote = s.remote := by
      obtain ⟨_, only⟩ := takeGrant_only g s
      rw [only]
    cases linkOf kb with
    | none => rfl
    | some k =>
      simp only [takeGrant_linkAt, remote]
      by_cases bad : timeout = 0 ∨ kind = 0x15
      · rw [if_pos bad, if_pos bad, conclude_error]
      rw [if_neg bad, if_neg bad]
      by_cases down : (s.linkAt k).state ≠ .up
      · rw [if_pos down, if_pos down, conclude_error]
      rw [if_neg down, if_neg down]
      by_cases full : Config.tableCapacity ≤ s.remote.entries.length
      · rw [if_pos full, conclude_error]
        exact (if_pos full).symm
      · rw [if_neg full, conclude_ok, State.modRemote, remote]
        exact (if_neg full).symm
  · obtain ⟨n, small, found, free, skipped⟩ := freshTag_spec (t := t) (few.trans_lt (by decide))
    refine ⟨free, fun i below => skipped i ?_⟩
    rwa [found, distance_add_ofNat, Nat.mod_eq_of_lt small] at below

/-! ### The ends of an entry -/

/-- R131: the timeout of the entry that holds a tag. -/
theorem entryTimeout_of_entry {s : State} {tag : Byte} {e : RemoteEntry} (found : s.remote.entry? tag = some e) :
    s.entryTimeout tag =
      (s.modRemote (RemoteTable.finish tag Status.timeout.code [] (e.state == .sent))).raise .remoteTimeout 0 := by
  simp only [State.entryTimeout, found]

/-- R131, log 4: an entry's timeout occurs once its timer has run out. -/
theorem remoteEntryTimeout_ranOut {s : State} (running : s.held = false) {tag : Byte} {e : RemoteEntry}
    (found : s.remote.entry? tag = some e) (out : e.timer = some 0) :
    exec (.remoteEntryTimeout tag) s = .next (s.entryTimeout tag).settle := by
  have timer : s.entryTimer tag = some 0 := by simp only [State.entryTimer, found, out]
  rw [exec, execRemoteEntryTimeout, timer, expiry_ranOut running]

theorem remoteEntryTimeout_waits {s : State} {tag : Byte} (waits : ∀ e, s.remote.entry? tag = some e → e.timer ≠ some 0) :
    exec (.remoteEntryTimeout tag) s = .next s := by
  refine expiry_waits _ s fun out => ?_
  unfold State.entryTimer at out
  split at out
  · exact waits _ ‹_› out
  · cases out

theorem awaiting_iff (e : RemoteEntry) :
    e.awaiting = true ↔ e.state = .sent ∨ e.state = .orphan ∨ e.state = .done ∧ e.orphanMark = true := by
  unfold RemoteEntry.awaiting
  cases e.state <;> simp

/-- R132: a late answer to a DONE entry takes its orphan mark. -/
theorem lateAnswer_done {e : RemoteEntry} (done : e.state = .done) (t : RemoteTable) :
    t.lateAnswer e =
      { t with
        entries := t.entries.map fun x => if x.tag = e.tag then { x with orphanMark := false } else x
        lateCount := satAdd t.lateCount 1 } := if_pos done

/-- R132: a late answer to an ORPHAN frees it. -/
theorem lateAnswer_orphan {e : RemoteEntry} (orphan : e.state = .orphan) (t : RemoteTable) :
    t.lateAnswer e =
      { t with entries := t.entries.filter fun x => x.tag ≠ e.tag, lateCount := satAdd t.lateCount 1 } := by
  simp [RemoteTable.lateAnswer, orphan, RemoteTable.free, bne, beq_eq_decide]

section
variable {s : State} {k : LinkId} {tag kind status : Byte} {data : List Byte}

theorem handOn_rres : s.handOn k .rres (tag :: kind :: status :: data) = s.takeRres k tag kind status data := rfl

/-- R133: an RRES that matches no entry is a stray. -/
theorem takeRres_unmatched (found : s.remote.match? k tag kind = none) : s.takeRres k tag kind status data = s.stray k := by
  simp only [State.takeRres, found]

variable {e : RemoteEntry} (found : s.remote.match? k tag kind = some e)
include found

/-- R130: an RRES ends the SENT entry that it matches. -/
theorem takeRres_sent (sent : e.state = .sent) :
    s.takeRres k tag kind status data = s.modRemote (RemoteTable.finish tag status data false) := by
  simp only [State.takeRres, found, sent]

/-- R132: an RRES that matches a DONE entry with the orphan mark, or an ORPHAN, is a late answer. -/
theorem takeRres_late (late : e.state = .done ∧ e.orphanMark = true ∨ e.state = .orphan) :
    s.takeRres k tag kind status data = (s.modRemote (RemoteTable.lateAnswer e)).raise .lateReply 0 := by
  rcases late with ⟨done, mark⟩ | orphan
  · simp only [State.takeRres, found, done, mark, if_true]
  · simp only [State.takeRres, found, orphan]

/-- R133: an RRES that matches an entry which awaits no answer is a stray. -/
theorem takeRres_unawaited (idle : ¬e.awaiting = true) : s.takeRres k tag kind status data = s.stray k := by
  simp only [State.takeRres, found]
  cases state : e.state with
  | queued => rfl
  | sent => simp [RemoteEntry.awaiting, state] at idle
  | done => exact if_neg (by simpa [RemoteEntry.awaiting, state] using idle)
  | orphan => simp [RemoteEntry.awaiting, state] at idle

end

/-- R128: the first QUEUED entry of a link may leave, unless an entry of the link awaits its answer. -/
theorem mayLeave_eq (t : RemoteTable) (k : LinkId) :
    t.mayLeave k =
      if ∃ e ∈ t.entries, e.link = k ∧ e.awaiting = true then none
      else t.entries.find? fun e => decide (e.link = k ∧ e.state = .queued) := by
  simp only [RemoteTable.mayLeave, List.any_eq_true, Bool.and_eq_true, Bool.decide_and, beq_eq_decide, decide_eq_true_eq]

/-- Settles O45: the expiry of an entry's timer, an RRES by the state of the entry that it matches, and the RREQ that may leave. -/
theorem entriesEndByAnswerOrTimeout : Obligations.EntriesEndByAnswerOrTimeout := by
  refine ⟨fun tag s running => ⟨remoteEntryTimeout_waits, fun e found out => ?_⟩, fun s k tag kind status data => ?_,
    fun t k => ?_⟩
  · rw [remoteEntryTimeout_ranOut running found out, entryTimeout_of_entry found, beq_eq_decide]
    rfl
  · rw [handOn_rres]
    dsimp only
    cases found : s.remote.entries.find? fun e => e.tag == tag && e.link == k && e.kind == kind with
    | none => exact takeRres_unmatched found
    | some e =>
      obtain ⟨-, rfl⟩ := of_match found
      dsimp only
      split
      · exact takeRres_sent found ‹_›
      split
      · rename_i late
        rw [takeRres_late found (.inl late), State.modRemote, lateAnswer_done late.1]
        rfl
      split
      · rename_i orphan
        rw [takeRres_late found (.inr orphan), State.modRemote, lateAnswer_orphan orphan]
        rfl
      · rename_i notSent notLate notOrphan
        refine takeRres_unawaited found fun awaits => ?_
        rcases (awaiting_iff e).mp awaits with sent | orphan | late
        · exact notSent sent
        · exact notOrphan orphan
        · exact notLate late
  · simp only [mayLeave_eq, awaiting_iff]

/-! ### Results and notices -/

/-- R135: what the beginning of a result makes of the table. -/
theorem deliver_entries (e : RemoteEntry) (rest : List Byte) (t : RemoteTable) :
    t.deliver e rest =
      { t with
        doneOrder := rest
        entries :=
          if e.orphanMark = true then
            t.entries.map fun x =>
              if x.tag = e.tag then { x with state := .orphan, orphanMark := false, status := 0, data := [] } else x
          else t.entries.filter fun x => x.tag ≠ e.tag } := by
  unfold RemoteTable.deliver
  dsimp only
  split
  · rfl
  · simp [RemoteTable.free, bne, beq_eq_decide]

/-- R186: a LOST notice takes the place of the notice that is sent, when notices were lost. -/
theorem eventUnit_deliver_eq (rest : List Notice) (e : EventUnit) :
    e.deliver rest = { e with notices := if e.lost = 0 then rest else rest ++ [.lost e.lost], lost := 0 } := by
  unfold EventUnit.deliver
  split
  · rename_i none
    rw [none]
  · rfl

section
variable {s : State}

theorem hostArbiter_busy (busy : s.host.sending ≠ none) : s.hostArbiter = s :=
  if_pos (Option.isSome_iff_ne_none.mpr busy)

variable (free : s.host.sending = none)
include free

theorem hostArbiter_reply {f : HostFrame} (queued : s.host.queued = some f) :
    s.hostArbiter = s.modHost (HostPort.beginReply f) := by
  simp [State.hostArbiter, free, queued]

variable (unqueued : s.host.queued = none)
include unqueued

theorem hostArbiter_resetPending (pending : s.executor.resetPending = true) : s.hostArbiter = s := by
  simp [State.hostArbiter, free, unqueued, pending]

variable (running : s.executor.resetPending = false)
include running

theorem hostArbiter_result {tag : Byte} {rest : List Byte} (head : s.remote.doneOrder = tag :: rest) :
    s.hostArbiter = s.beginResult tag rest := by
  simp [State.hostArbiter, free, unqueued, running, head]

theorem hostArbiter_notice (order : s.remote.doneOrder = []) {n : Notice} {rest : List Notice} (head : s.events.notices = n :: rest) :
    s.hostArbiter = s.beginNotice n rest := by
  simp [State.hostArbiter, free, unqueued, running, order, head]

theorem hostArbiter_nothing (order : s.remote.doneOrder = []) (notices : s.events.notices = []) : s.hostArbiter = s := by
  simp [State.hostArbiter, free, unqueued, running, order, notices]

end

/-- Settles O48, rank by rank. -/
theorem outputArbiterRanks : Obligations.OutputArbiterRanks := by
  intro s sends
  refine ⟨hostArbiter_busy, fun free => ⟨fun f => hostArbiter_reply free, hostArbiter_resetPending free,
    fun queued running => ⟨fun tag rest e head found => ?_, fun n rest order head => ?_, hostArbiter_nothing free queued running⟩⟩⟩
  · obtain ⟨-, rfl⟩ := of_entry found
    have result : s.beginResult e.tag rest =
        (s.modRemote (RemoteTable.deliver e rest)).modHost (HostPort.beginReport Config.resultKind e.resultBody) := by
      simp only [State.beginResult, RemoteTable.entry?, found]
    rw [hostArbiter_result free queued running head, result, State.modRemote, deliver_entries]
    rfl
  · rw [hostArbiter_notice free queued running order head, State.beginNotice, State.modEvents, eventUnit_deliver_eq]
    rfl

end Sys2Proof.Machine
end

section
/-! PROOFS. The executor: whom it grants, what a request row can be, and what a grant, a reply and a refusal leave: O7, O8, O9, O11. -/

namespace Sys2Proof.Machine

/-! ### The order of examination -/

theorem forall_source {P : Source → Prop} : (∀ x, P x) ↔ P .host ∧ ∀ k, P (.slot k) :=
  ⟨fun h => ⟨h _, fun _ => h _⟩, fun h x => by cases x with
    | host => exact h.1
    | slot k => exact h.2 k⟩

/-- R145: every source is examined. -/
theorem mem_fromHere : ∀ p x : Source, x ∈ p.fromHere := by
  simp only [forall_source]
  decide

/-- R146: once `x` is granted, the places up to and with `x` no longer stand before `y`. -/
theorem idxOf_fromHere_next : ∀ p x y : Source, p.fromHere.idxOf x < p.fromHere.idxOf y →
    p.fromHere.idxOf y = x.next.fromHere.idxOf y + (p.fromHere.idxOf x + 1) := by
  simp only [forall_source]
  decide

/-! ### The grant -/

theorem readyRequest_slot {s : State} {k : LinkId} {r : HostFrame} :
    s.readyRequest (.slot k) = some r ↔ r.seq = 0 ∧ ∃ tag, (s.linkAt k).slot = .waiting tag r.kind r.body := by
  obtain ⟨seq, kind, body⟩ := r
  cases holds : (s.linkAt k).slot with
  | waiting tag kind' body' =>
    simp only [State.readyRequest, holds, Option.some.injEq, HostFrame.mk.injEq, Slot.waiting.injEq, exists_eq_left', eq_comm]
  | _ => simp [State.readyRequest, holds]

theorem nextGrant_resetPending {s : State} (pending : s.executor.resetPending = true) : s.nextGrant = none :=
  if_pos pending

section
variable {s : State} (running : s.executor.resetPending = false)
include running

theorem nextGrant_running :
    s.nextGrant = s.executor.pointer.fromHere.findSome? fun src => (s.readyRequest src).map (Grant.mk src) :=
  if_neg (by rw [running]; nofun)

theorem nextGrant_eq_none : s.nextGrant = none ↔ ∀ x, s.readyRequest x = none := by
  simp [nextGrant_running running, mem_fromHere]

/-- R145: the granted source is ready, and no source examined before it is. -/
theorem nextGrant_eq_some {g : Grant} :
    s.nextGrant = some g ↔ ∃ before after, s.executor.pointer.fromHere = before ++ g.src :: after ∧
      s.readyRequest g.src = some g.req ∧ ∀ x ∈ before, s.readyRequest x = none := by
  obtain ⟨src, req⟩ := g
  simp only [nextGrant_running running, List.findSome?_eq_some_iff, Option.map_eq_some_iff, Option.map_eq_none_iff,
    Grant.mk.injEq]
  constructor
  · rintro ⟨before, _, after, order, ⟨r, ready, rfl, rfl⟩, unready⟩
    exact ⟨before, after, order, ready, unready⟩
  · rintro ⟨before, after, order, ready, unready⟩
    exact ⟨before, _, after, order, ⟨req, ready, rfl, rfl⟩, unready⟩

end

theorem running_of_nextGrant {s : State} {g : Grant} (next : s.nextGrant = some g) : s.executor.resetPending = false := by
  rw [← Bool.not_eq_true]
  intro pending
  rw [nextGrant_resetPending pending] at next
  cases next

/-- R145: a ready source that is not granted is examined after the granted one. -/
theorem granted_before_ready {s : State} {g : Grant} {x : Source} (next : s.nextGrant = some g)
    (ready : (s.readyRequest x).isSome) (other : g.src ≠ x) :
    s.executor.pointer.fromHere.idxOf g.src < s.executor.pointer.fromHere.idxOf x := by
  obtain ⟨before, after, order, granted, unready⟩ := (nextGrant_eq_some (running_of_nextGrant next)).mp next
  have notBefore {y : Source} (h : (s.readyRequest y).isSome) : y ∉ before := fun mem => by
    rw [unready y mem] at h
    cases h
  rw [order, List.idxOf_append_of_notMem (notBefore (by rw [granted]; rfl)), List.idxOf_append_of_notMem (notBefore ready),
    List.idxOf_cons_self, List.idxOf_cons_ne _ other]
  omega

/-- Settles O7: the first ready source by the search through the order of examination, and the approach by the places in it. -/
theorem grantIsFirstReadyAndRoundRobin : Obligations.GrantIsFirstReadyAndRoundRobin := by
  refine ⟨⟨fun _ => rfl, fun _ => rfl, fun _ _ _ => readyRequest_slot, fun _ => nextGrant_resetPending, fun s running => ?_,
    fun s g running => nextGrant_eq_some running⟩, fun s g x next ready other => ?_⟩
  · rw [nextGrant_eq_none running, forall_source]
  · have nearer := idxOf_fromHere_next _ _ _ (granted_before_ready next ready other)
    have five : s.executor.pointer.fromHere.idxOf x < 5 := List.idxOf_lt_length_of_mem (mem_fromHere _ x)
    omega

/-! ### A grant and a reply -/

/-- R172: the KIND of a reply. -/
theorem replyKind_eq (kind : Byte) :
    replyKind kind = if 1 ≤ kind.toNat ∧ kind.toNat ≤ 0x1A then kind + 0x80 else 0x80 := by
  simp [replyKind, isRequestKind]

/-- R139: the reply to a request that a slot holds. -/
theorem answer_waiting {s : State} {k : LinkId} {r : HostFrame} {tag : Byte} (holds : (s.linkAt k).slot = .waiting tag r.kind r.body)
    (status : Status) (data : List Byte) :
    s.answer ⟨.slot k, r⟩ status data = s.modLink k fun l => { l with slot := .replied tag r.kind status.code data } := by
  simp only [State.answer, State.modLink, holds, Slot.reply]

/-- Settles O8: by the origin of the request. -/
theorem grantMovesPointerAndReplyGoesToOrigin : Obligations.GrantMovesPointerAndReplyGoesToOrigin := by
  refine ⟨⟨rfl, rfl, rfl, rfl, rfl, fun _ _ => rfl, fun _ _ _ => rfl⟩, fun s r status data => ?_,
    fun s k r tag status data holds => answer_waiting holds status data, by decide⟩
  rw [← replyKind_eq]
  rfl

/-! ### What a command can be -/

/-- Every command but the two of RESETN is a row of the executor with its own rule, or an event. -/
theorem exec_request_or_event (c : Instr) (noEntry : c ≠ .powerResetEntry) (noExit : ∀ a b, c ≠ .powerResetExit a b) :
    (∃ rule, ∀ s, exec c s = request (requestsOf c) rule s) ∨
      (∀ r, requestsOf c r = false) ∧ ∀ s, ∃ occurs effect, exec c s = event occurs effect s := by
  cases c with
  | powerResetEntry => exact absurd rfl noEntry
  | powerResetExit a b => exact absurd rfl (noExit a b)
  | lineSample | debounceExpiry | hostFrameReceived | hostBadLength | hostGapTimerExpiry | hostCharacterError | hostTxEnd
  | linkFrameReceived | linkFramerGapExpiry | helloTimerExpiry | keepaliveTimerExpiry | silenceTimerExpiry | holdOffExpiry
  | retransmitTimerExpiry | ackTimerExpiry | linkTxEnd | remoteEntryTimeout | hostByteReceived | linkByteReceived =>
    exact .inr ⟨fun _ => rfl, fun _ => ⟨_, _, rfl⟩⟩
  | _ => exact .inl ⟨_, fun _ => rfl⟩

/-- A command that serves some request is a row of the executor. -/
theorem exec_of_serves {c : Instr} {r : HostFrame} (serves : requestsOf c r = true) :
    ∃ rule, ∀ s, exec c s = request (requestsOf c) rule s := by
  refine (exec_request_or_event c ?_ ?_).resolve_right ?_
  · rintro rfl
    cases serves
  · rintro a b rfl
    cases serves
  · rintro ⟨servesNone, -⟩
    rw [servesNone] at serves
    cases serves

/-- A request row with no grant of one of its requests to make changes nothing (log 1, log 2). -/
theorem request_idle {serves : HostFrame → Bool} {rule : RequestRule} {s : State}
    (unserved : ∀ g, s.nextGrant = some g → serves g.req = false) : request serves rule s = .next s := by
  rcases request_cases serves rule s with idle | ⟨g, -, next, served, -⟩
  · exact idle
  · rw [unserved g next] at served
    cases served

/-! ### Refusals -/

/-- R151: a granted request that fails a check is refused with the status of that check. -/
theorem request_refused {s : State} {g : Grant} {serves : HostFrame → Bool} {rule : RequestRule} {status : Status}
    (running : s.held = false) (next : s.nextGrant = some g) (served : serves g.req = true)
    (failed : judge g rule (s.takeGrant g) = .error status) : request serves rule s = .next (s.refusal g status) := by
  rw [request_granted running next served, State.execute, failed]
  rfl

/-- Settles O11: the fields that the grant and the reply write, and a row with no grant of its own. -/
theorem refusalHasNoEffect : Obligations.RefusalHasNoEffect := by
  refine ⟨fun s g status => ⟨(s.takeGrant g).answer g status [], rfl, ?_⟩, fun c s ⟨r, serves⟩ unserved => ?_⟩
  · obtain ⟨src, r⟩ := g
    cases src with
    | host =>
      exact ⟨rfl, rfl, rfl, rfl, rfl, rfl, rfl, rfl, rfl, ⟨_, _, _, _, rfl⟩, fun k => ⟨_, rfl, fun _ => rfl⟩⟩
    | slot j =>
      refine ⟨rfl, rfl, rfl, rfl, rfl, rfl, rfl, rfl, rfl, ⟨_, _, _, _, rfl⟩, fun k => ?_⟩
      rw [State.answer, State.linkAt_modLink]
      split
      · rename_i own
        subst own
        exact ⟨_, rfl, fun other => absurd rfl other⟩
      · exact ⟨_, rfl, fun _ => rfl⟩
  · obtain ⟨rule, row⟩ := exec_of_serves serves
    rw [row, request_idle unserved]

/-! ### The common checks -/

section
variable {g : Grant} {s : State} (rule : RequestRule)

theorem judge_badLength (known : isRequestKind g.req.kind = true) (wrong : lengthFits g.req.kind g.req.body = false) :
    judge g rule s = .error .badLength := by simp [judge, known, wrong]

theorem judge_unknownKind (unknown : isRequestKind g.req.kind = false) : judge g rule s = .error .unknownKind := by
  simp [judge, unknown]

theorem judge_denied (known : isRequestKind g.req.kind = true) (fits : lengthFits g.req.kind g.req.body = true)
    (denied : s.permits g = false) : judge g rule s = .error .denied := by simp [judge, known, fits, denied]

end

/-- R199: the length of a COMBINER_CONFIG follows from its member count. -/
theorem lengthFits_combinerConfig (b : List Byte) :
    lengthFits 0x0D b = decide (5 ≤ b.length ∧ b.length = 5 + 2 * (b.getD 4 0).toNat ∧ b.length ≤ 37) := by
  match b with
  | [] | [_] | [_, _] | [_, _, _] | [_, _, _, _] => rfl
  | _ :: _ :: _ :: _ :: count :: rest => simp [lengthFits, beq_eq_decide]

/-- R199: the length of a LINK_EXPORT follows from its byte count. -/
theorem lengthFits_linkExport (b : List Byte) :
    lengthFits 0x13 b = decide (2 ≤ b.length ∧ b.length = 2 + (b.getD 1 0).toNat ∧ (b.getD 1 0).toNat ≤ 8) := by
  match b with
  | [] | [_] => rfl
  | _ :: count :: rest => simp [lengthFits, beq_eq_decide]

/-- Settles O9: a row's request fails the first check that it does not pass, and the lengths kind by kind. -/
theorem checksFallInOrder : Obligations.ChecksFallInOrder := by
  refine ⟨fun c s g running next serves => ?_, fun kind => ?_, fun kind mem b => ?_, fun kind mem b => ?_, fun kind mem b => ?_,
    fun _ => rfl, fun _ => rfl, fun _ => rfl, fun _ => rfl, fun _ => rfl, fun _ => rfl, fun b => ?_, lengthFits_combinerConfig,
    lengthFits_linkExport⟩
  · obtain ⟨rule, row⟩ := exec_of_serves serves
    have refused {status : Status} (failed : judge g rule (s.takeGrant g) = .error status) :
        exec c s = .next (s.refusal g status) := (row s).trans (request_refused running next serves failed)
    exact ⟨fun known wrong => refused (judge_badLength rule known wrong), fun unknown => refused (judge_unknownKind rule unknown),
      fun known fits denied => refused (judge_denied rule known fits ((takeGrant_permits g s).trans denied))⟩
  · simp [isRequestKind]
  · fin_cases mem <;> rfl
  · fin_cases mem <;> rfl
  · fin_cases mem <;> rfl
  · simp [lengthFits]

end Sys2Proof.Machine
end

section
/-! PROOFS. The passing of time, power reset, and the end of a frame to the host: O2, O4, O5, O6, O59. -/

namespace Sys2Proof.Machine

/-! ### The passing of time -/

@[simp] theorem passTime_lineAt (s : State) (n : LineId) : s.passTime.lineAt n = (s.lineAt n).pass := get_tabulate _ n

@[simp] theorem passTime_linkAt (s : State) (k : LinkId) : s.passTime.linkAt k = (s.linkAt k).pass := get_tabulate _ k

/-- A step on an empty queue is the passing of time (log 4). -/
theorem step_idle {s : State} (waiting : s.pending = []) : step s = .next s.idle := by
  simp only [step, waiting]

/-- Settles O2, record by record. -/
theorem idleStepPassesTime : Obligations.IdleStepPassesTime := by
  refine ⟨fun s waiting held => ?_, fun s waiting running => ?_, fun s => ⟨passTime_lineAt s, passTime_linkAt s,
    rfl, rfl, rfl, rfl, rfl, rfl, rfl, rfl, rfl⟩⟩
  · rw [step_idle waiting, State.idle, if_pos held]
  · rw [step_idle waiting, State.idle, if_neg (by rw [running]; nofun)]

/-! ### The first choice after a reset -/

/-- Where no link can send, the transmit arbiters choose nothing. -/
theorem linkArbiters_silent {s : State} {ks : List LinkId}
    (silent : ∀ k ∈ ks, (s.linkAt k).line ≠ none ∨ (s.linkAt k).state = .off ∨ (s.linkAt k).state = .fault) :
    ks.foldl (fun t k => t.linkArbiter k) s = s := by
  induction ks with
  | nil => rfl
  | cons k ks ih =>
    rw [List.foldl_cons, linkArbiter_silent (silent k List.mem_cons_self)]
    exact ih fun j mem => silent j (List.mem_cons_of_mem k mem)

/-- R177, R189: START is the first frame after a reset, with output SEQ 0, and no link sends. -/
theorem settle_resetWith_start (rate : UartRate) (cause : ResetCause) (pending : List Instr) :
    (State.resetWith rate [.start cause] false pending).settle =
      (State.resetWith rate [] false pending).modHost (HostPort.beginReport 0x40 [1, cause.code]) := by
  have chosen : (State.resetWith rate [.start cause] false pending).hostArbiter =
      (State.resetWith rate [] false pending).modHost (HostPort.beginReport 0x40 [1, cause.code]) :=
    hostArbiter_notice rfl rfl rfl rfl (n := .start cause) (rest := []) rfl
  rw [State.settle, chosen]
  refine linkArbiters_silent fun k _ => .inr (.inl ?_)
  rw [State.modHost_linkAt, resetWith_linkAt]
  rfl

/-- Settles O5, with the first choice after a reset. -/
theorem powerResetExitSendsStart : Obligations.PowerResetExitSendsStart := by
  intro rate1 rate0 s
  have strapped : rateOf rate1 rate0 =
      if rate1 then (if rate0 then .baud3000000 else .baud1000000) else (if rate0 then .baud460800 else .baud115200) := by
    cases rate1 <;> cases rate0 <;> rfl
  dsimp only
  rw [← strapped, exec, execPowerResetExit, State.leaveReset, settle_resetWith_start]
  rfl

/-! ### The end of a host frame -/

theorem hostTxEnd_frees {s : State} (stays : s.executor.resetPending = false ∨ s.host.queued ≠ none) :
    s.hostTxEnd = s.modHost fun h => { h with sending := none } :=
  if_neg fun ⟨pending, unqueued⟩ => stays.elim (fun running => by rw [running] at pending; cases pending) (· unqueued)

/-- R157: the end of the RESET reply is the soft reset, which keeps the rate. -/
theorem hostTxEnd_resets {s : State} (pending : s.executor.resetPending = true) (unqueued : s.host.queued = none) :
    s.hostTxEnd = State.resetWith s.host.rate [.start .soft] s.held s.pending := if_pos ⟨pending, unqueued⟩

/-- Settles O6: no frame, the RESET reply, any other frame. -/
theorem hostTxEndFreesOrResets : Obligations.HostTxEndFreesOrResets := by
  intro s running
  have ends (sends : s.host.sending ≠ none) : exec .hostTxEnd s = .next s.hostTxEnd.settle := by
    rw [exec, execHostTxEnd, Option.isSome_iff_ne_none.mpr sends]
    exact event_occurs running
  refine ⟨fun free => ?_, fun sends pending unqueued => ?_, fun sends stays => ?_⟩
  · rw [exec, execHostTxEnd, free]
    exact event_idle s _
  · rw [ends sends, hostTxEnd_resets pending unqueued, running, settle_resetWith_start]
    rfl
  · rw [ends sends, hostTxEnd_frees stays]
    rfl

/-! ### Held in reset -/

/-- R158: while RESETN is low no command but its own two changes anything. -/
theorem exec_held {c : Instr} {s : State} (held : s.held = true) (noEntry : c ≠ .powerResetEntry)
    (noExit : ∀ a b, c ≠ .powerResetExit a b) : exec c s = .next s := by
  rcases exec_request_or_event c noEntry noExit with ⟨rule, row⟩ | ⟨-, isEvent⟩
  · rw [row]
    rcases request_cases (requestsOf c) rule s with idle | ⟨_, running, -⟩
    · exact idle
    · rw [held] at running
      cases running
  · obtain ⟨occurs, effect, taken⟩ := isEvent s
    rw [taken, event_held held]

/-- Settles O4: the reset values of the blocks, and that no other command acts. -/
theorem powerResetStopsTheHub : Obligations.PowerResetStopsTheHub := by
  refine ⟨fun s => ⟨s.holdInReset, rfl, rfl, fun n => ?_, rfl, rfl, rfl, rfl, rfl, rfl, rfl, rfl, fun k => ?_, rfl⟩,
    fun c s => exec_held⟩
  · rw [State.holdInReset, resetWith_lineAt]
    exact ⟨rfl, rfl, rfl⟩
  · rw [State.holdInReset, resetWith_linkAt]
    exact ⟨rfl, rfl, rfl, rfl, rfl, rfl, rfl, rfl, rfl, rfl, rfl, rfl⟩

/-! ### The laws after a reset -/

/-- R77, R80, R81, R107: an engine after reset is OFF, runs no timer, and its queue and its list are empty. -/
theorem linkLaw_reset : Link.reset.Law where
  queue := ⟨by decide, by decide, rfl, fun _ => rfl, by decide, nofun⟩
  list := ⟨List.nodup_nil, nofun, nofun, fun _ => rfl⟩
  session := ⟨by decide, by decide, nofun, nofun, nofun, nofun, nofun, nofun, nofun, fun _ => rfl⟩

section
variable (rate : UartRate) (notices : List Notice) (held : Bool) (pending : List Instr)

/-- R193: no flag is set and no alert channel is named. -/
theorem alertExact_resetWith : (State.resetWith rate notices held pending).alertExact := by
  change false = ((0#31 &&& EventUnit.defaultAlertMask) != 0 || false)
  decide

theorem noticeLaw_resetWith_start (cause : ResetCause) : (State.resetWith rate [.start cause] held pending).NoticeLaw where
  capacity := (by decide : 1 ≤ 16)
  channels _ := List.countP_le_length
  counts n mem := by
    rw [List.mem_singleton.mp mem]
    nofun

theorem linkLaw_resetWith : (State.resetWith rate notices held pending).LinkLaw := fun k => by
  rw [resetWith_linkAt]
  exact linkLaw_reset

/-- R177: nothing is outstanding and no SEQ was accepted; the framer hunts. -/
theorem hostLaw_resetWith : (State.resetWith rate notices held pending).HostLaw where
  outstanding := rfl
  cache := by simp [State.resetWith, HostPort.reset]
  accepted := nofun
  echo := nofun
  gap := by simp [State.resetWith, HostPort.reset, HostFramer.inFrame]
  discard := by simp [State.resetWith, HostPort.reset, Executor.reset]

end

/-- Settles O59, law by law. -/
theorem resetKeepsEveryLaw : Obligations.ResetKeepsEveryLaw :=
  ⟨alertExact_resetWith _ _ _ _, noticeLaw_resetWith_start _ _ _ _, channelLaw_resetWith _ _ _ _, linkLaw_resetWith _ _ _ _,
    remoteLaw_resetWith _ _ _ _, hostLaw_resetWith _ _ _ _, fun n => by rw [State.reset, resetWith_lineAt]; exact lineLaw_reset,
    fun m => by rw [State.reset, resetWith_comb]; exact combinerLaw_reset⟩

end Sys2Proof.Machine
end

section
/-! PROOFS. How the host port takes what arrives: a byte by the state of its framer, a completed frame by its CRC and its SEQ, and the bytes of a whole frame: O46, O47, O50. -/

namespace Sys2Proof.Machine

/-! ### A byte, by the state of the framer -/

/-- R161, R163: the framer takes its next state inside a frame, and the gap timer starts again. -/
def HostPort.framed (f : HostFramer) (h : HostPort) : HostPort := { h with framer := f, gapTimer := some Config.hostGapTime }

/-- R161: a frame is over, the framer hunts, and the gap timer stops. -/
def HostPort.unframed (h : HostPort) : HostPort := { h with framer := .hunt, gapTimer := none }

/-- R162: SYNC begins a frame, and every other byte is dropped. -/
theorem modHost_hunt (b : Byte) (s : State) :
    s.modHost (HostPort.hunt b) = if b = 0x5A then s.modHost (HostPort.framed .length) else s := by
  rw [State.modHost, HostPort.hunt, apply_ite fun h => ({ s with host := h } : State)]
  rfl

theorem isLength_iff (b : Byte) : isLength b = true ↔ 1 ≤ b.toNat ∧ b.toNat ≤ 64 := by simp [isLength]

section
variable {s : State} {b len : Byte} {got : List Byte} {due : Nat}

theorem hostByte_hunt (hunting : s.host.framer = .hunt) : s.hostByte b = s.modHost (HostPort.hunt b) := by
  simp only [State.hostByte, hunting]

theorem hostByte_length (waiting : s.host.framer = .length) (fits : isLength b = true) :
    s.hostByte b = s.modHost (HostPort.framed (.collect b [] (b.toNat + 3))) := by
  simp only [State.hostByte, waiting, fits]
  rfl

theorem hostByte_badLength (waiting : s.host.framer = .length) (wrong : isLength b = false) :
    s.hostByte b = s.framingError.modHost (HostPort.hunt b) := by
  simp only [State.hostByte, waiting, wrong]
  rfl

theorem hostByte_collect_more (inside : s.host.framer = .collect len got due) (more : 2 ≤ due) :
    s.hostByte b = s.modHost (HostPort.framed (.collect len (got ++ [b]) (due - 1))) := by
  simp only [State.hostByte, inside, if_neg (Nat.not_le.mpr more)]
  rfl

theorem hostByte_collect_last (inside : s.host.framer = .collect len got due) (last : due ≤ 1) :
    s.hostByte b = (s.modHost HostPort.unframed).hostFrameComplete len (got ++ [b]) := by
  simp only [State.hostByte, inside, if_pos last]
  rfl

theorem hostByte_discard (discarding : s.host.framer = .discard) : s.hostByte b = s := by
  simp only [State.hostByte, discarding]

end

/-- Settles O46: the three rows are one event, and the byte is taken by the state of the framer. -/
theorem hostBytesAreFramed : Obligations.HostBytesAreFramed := by
  refine ⟨⟨fun b s running => ⟨event_occurs running, event_occurs running, event_occurs running⟩, fun b s => ?_⟩,
    fun s running => ⟨?_, ?_⟩⟩
  · refine ⟨fun hunting => ?_, fun waiting least most => ?_, fun waiting wrong => ?_, fun len got due inside more => ?_,
      hostByte_discard, rfl⟩
    · exact (hostByte_hunt hunting).trans (modHost_hunt b s)
    · exact hostByte_length waiting ((isLength_iff b).mpr ⟨least, most⟩)
    · have bad : isLength b = false := by
        rw [← Bool.not_eq_true, isLength_iff]
        omega
      exact (hostByte_badLength waiting bad).trans (modHost_hunt b s.framingError)
    · exact hostByte_collect_more inside more
  · split
    · exact expiry_waits _ s ‹_›
    · rename_i out
      rw [exec, execHostGapTimerExpiry, not_not.mp out, expiry_ranOut running]
  · rw [exec, execHostCharacterError]
    cases s.host.framer with
    | hunt => exact event_idle s _
    | length => exact event_occurs running
    | collect => exact event_occurs running
    | discard => exact event_idle s _

/-! ### A completed frame -/

/-- R164: the bytes after LEN are SEQ, KIND, the body and the CRC, high byte first. -/
theorem hostFrameComplete_cons (len seq kind : Byte) (rest : List Byte) (s : State) :
    s.hostFrameComplete len (seq :: kind :: rest) =
      if rest.drop (len.toNat - 1) ≠ bytesOf16 (crc16 (len :: seq :: kind :: rest.take (len.toNat - 1))) then s.hostCrcError
      else s.goodHostFrame ⟨seq, kind, rest.take (len.toNat - 1)⟩ := (ite_not ..).symm

section
variable {h : HostPort} {seq last : Byte}

theorem retryReply_same (before : h.lastSeq = some seq) : h.retryReply seq = h.cache := if_pos before

theorem retryReply_other (before : h.lastSeq ≠ some seq) : h.retryReply seq = none := if_neg before

theorem retryReply_eq_none_of_empty (empty : h.cache = none) (seq : Byte) : h.retryReply seq = none := by
  rw [HostPort.retryReply, empty, ite_self]

theorem gapBefore_first (first : h.lastSeq = none) : h.gapBefore seq = false := by simp only [HostPort.gapBefore, first]

theorem gapBefore_iff (before : h.lastSeq = some last) : h.gapBefore seq = true ↔ seq ≠ last ∧ seq ≠ last + 1 := by
  simp only [HostPort.gapBefore, before, Bool.and_eq_true, bne_iff_ne, and_comm]

theorem gapBefore_eq_false (before : h.lastSeq = some last) : h.gapBefore seq = false ↔ seq = last ∨ seq = last + 1 := by
  rw [← Bool.not_eq_true, gapBefore_iff before]
  tauto

end

section
variable {f : HostFrame} {s : State}

theorem goodHostFrame_overrun (outstanding : s.host.outstanding = true) : s.goodHostFrame f = s.hostOverrun := if_pos outstanding

section
variable (free : s.host.outstanding = false)
include free

/-- R169: the last SEQ again, while the cache holds the reply to it. -/
theorem goodHostFrame_retry {reply : HostFrame} (retry : s.host.retryReply f.seq = some reply) :
    s.goodHostFrame f = s.modHost (HostPort.answerRetry reply) := by
  simp only [State.goodHostFrame, free, retry]
  rfl

section
variable (new : s.host.retryReply f.seq = none)
include new

/-- R170: a frame that is no retry is accepted. -/
theorem goodHostFrame_accept (follows : s.host.gapBefore f.seq = false) : s.goodHostFrame f = s.modHost (HostPort.accept f) := by
  simp only [State.goodHostFrame, free, new, follows]
  rfl

/-- R170: a gap is counted before the frame is accepted. -/
theorem goodHostFrame_gap (gap : s.host.gapBefore f.seq = true) :
    s.goodHostFrame f = s.seqGap.modHost (HostPort.accept f) := by
  simp only [State.goodHostFrame, free, new, gap]
  rfl

end

end

end

/-- Settles O47: the CRC, then the outstanding request, then the last SEQ and the cache. -/
theorem hostFramesAreSorted : Obligations.HostFramesAreSorted := by
  intro s len seq kind b rest due inside last
  dsimp only
  rw [hostByte_collect_last inside last, List.cons_append, List.cons_append, hostFrameComplete_cons]
  split
  · rfl
  split
  · exact goodHostFrame_overrun ‹_›
  rename_i free
  replace free : (s.modHost HostPort.unframed).host.outstanding = false := Bool.not_eq_true _ ▸ free
  split
  · rename_i first
    exact goodHostFrame_accept free (retryReply_other (first.trans_ne nofun)) (gapBefore_first first)
  · rename_i before cached
    split
    · rename_i same
      exact goodHostFrame_retry free ((retryReply_same (same ▸ before)).trans cached)
    rename_i other
    have new := retryReply_other (before.trans_ne fun again => other (Option.some.inj again).symm)
    split
    · exact goodHostFrame_accept free new ((gapBefore_eq_false before).mpr (.inr ‹_›))
    · exact goodHostFrame_gap free new ((gapBefore_iff before).mpr ⟨other, ‹_›⟩)
  · rename_i before empty
    have new := retryReply_eq_none_of_empty empty seq
    split
    · exact goodHostFrame_accept free new ((gapBefore_eq_false before).mpr ‹_›)
    · exact goodHostFrame_gap free new ((gapBefore_iff before).mpr (not_or.mp ‹_›))

/-! ### The bytes of a whole frame -/

/-- R162: inside a frame every byte is taken as it comes, and the last one completes the frame. -/
theorem hostBytes_collect (len b : Byte) (bs got : List Byte) (s : State)
    (inside : s.host.framer = .collect len got (bs.length + 1)) :
    (bs ++ [b]).foldl (fun t b => t.hostByte b) s =
      (s.modHost HostPort.unframed).hostFrameComplete len (got ++ (bs ++ [b])) := by
  induction bs generalizing got s with
  | nil => exact hostByte_collect_last inside (Nat.le_refl 1)
  | cons x bs ih =>
    have more : 2 ≤ (x :: bs).length + 1 := by simp
    rw [List.cons_append, List.foldl_cons, hostByte_collect_more inside more, ih (got ++ [x]) _ rfl, List.append_assoc]
    rfl

/-- R162: the LEN of a frame with a body of up to 63 bytes fits one byte. -/
theorem toNat_lenByte {n : Nat} (short : n ≤ 63) : (byteOfNat (n + 1)).toNat = n + 1 := by
  rw [byteOfNat, BitVec.toNat_ofNat]
  omega

/-- R164: the bytes that a frame's own KIND, SEQ and body make complete that frame. -/
theorem hostFrameComplete_frame (f : HostFrame) (short : f.body.length ≤ 63) (s : State) :
    s.hostFrameComplete (byteOfNat (f.body.length + 1)) (f.seq :: f.kind :: (f.body ++ bytesOf16 (crc16 f.covered))) =
      s.goodHostFrame f := by
  rw [hostFrameComplete_cons, toNat_lenByte short, Nat.add_sub_cancel, List.take_left, List.drop_left, HostFrame.covered, if_neg (not_not.mpr rfl)]

/-- Settles O50: SYNC and LEN are taken by the first two states of the framer, and LEN counts the bytes that follow. -/
theorem hostFrameBytesAreTakenAsThatFrame : Obligations.HostFrameBytesAreTakenAsThatFrame := by
  intro f s short hunting
  have len := toNat_lenByte short
  have fits : isLength (byteOfNat (f.body.length + 1)) = true := by
    rw [isLength_iff, len]
    omega
  obtain ⟨high, low, crc⟩ : ∃ high low, bytesOf16 (crc16 f.covered) = [high, low] := ⟨_, _, rfl⟩
  have bytes : f.bytes = 0x5A :: byteOfNat (f.body.length + 1) :: ((f.seq :: f.kind :: (f.body ++ [high])) ++ [low]) := by
    simp only [HostFrame.bytes, crc]
    simp [HostFrame.covered, Config.sync]
  rw [bytes, List.foldl_cons, hostByte_hunt hunting, List.foldl_cons, hostByte_length rfl fits, hostBytes_collect]
  · have whole : [] ++ (f.seq :: f.kind :: (f.body ++ [high]) ++ [low]) =
        f.seq :: f.kind :: (f.body ++ bytesOf16 (crc16 f.covered)) := by
      simp [crc]
    rw [whole, hostFrameComplete_frame f short]
    refine congrArg (State.goodHostFrame f) (congrArg (fun h => ({ s with host := h } : State)) ?_)
    change ({ s.host with framer := .hunt, gapTimer := none } : HostPort) = _
    rw [← hunting]
  · simp [HostPort.framed, len]

end Sys2Proof.Machine
end

section
/-! PROOFS. Every step keeps the law of the host port: O57. -/

namespace Sys2Proof.Machine

/-! ### The two halves of the law -/

/-- What the law reads of the sequence handling: the last SEQ, the cache, whether a request is outstanding, and which. -/
def HostPort.sequence (h : HostPort) : Option Byte × Option HostFrame × Bool × Option HostFrame :=
  (h.lastSeq, h.cache, h.outstanding, h.accepted)

/-- R167, R170: no request was accepted yet, or one is outstanding, or the last one is answered and its reply stands in the cache. -/
def HostPort.InPhase (h : HostPort) : Prop :=
  h.sequence = (none, none, false, none) ∨ (∃ f, h.sequence = (some f.seq, none, true, some f)) ∨
    ∃ r, h.sequence = (some r.seq, some r, false, none)

/-- R161, R163, R166: what the law says of the framer. -/
structure State.FramerLaw (s : State) : Prop where
  gap : s.host.gapTimer.isSome ↔ s.host.framer.inFrame
  discard : s.executor.resetPending ↔ s.host.framer = .discard

/-- The law of the host port: its sequence handling is in one of three phases, and its framer keeps its own law. -/
theorem hostLaw_iff (s : State) : s.HostLaw ↔ s.host.InPhase ∧ s.FramerLaw := by
  constructor
  · rintro ⟨outstanding, cache, accepted, echo, gap, discard⟩
    refine ⟨?_, gap, discard⟩
    simp only [HostPort.InPhase, HostPort.sequence]
    cases held : s.host.accepted with
    | some f =>
      have waiting : s.host.outstanding = true := by rw [outstanding, held]; rfl
      have empty : s.host.cache = none := by simpa [waiting] using cache
      exact .inr (.inl ⟨f, by rw [accepted f held, empty, waiting]⟩)
    | none =>
      have free : s.host.outstanding = false := by rw [outstanding, held]; rfl
      cases cached : s.host.cache with
      | some r => exact .inr (.inr ⟨r, by rw [echo r cached, free]⟩)
      | none =>
        have first : s.host.lastSeq = none := by simpa [free, cached] using cache
        exact .inl (by rw [first, free])
  · rintro ⟨phase, gap, discard⟩
    simp only [HostPort.InPhase, HostPort.sequence, Prod.mk.injEq] at phase
    rcases phase with
      ⟨last, cache, outstanding, accepted⟩ | ⟨f, last, cache, outstanding, accepted⟩ | ⟨r, last, cache, outstanding, accepted⟩
    all_goals exact ⟨by simp [outstanding, accepted], by simp [last, cache, outstanding], by simp [last, accepted],
      by simp [last, cache], gap, discard⟩

/-- R166: outside reset pending is outside DISCARD. -/
theorem State.FramerLaw.running {s : State} (h : s.FramerLaw) (other : s.host.framer ≠ .discard) : s.executor.resetPending = false := by
  rw [← Bool.not_eq_true, h.discard]
  exact other

theorem State.FramerLaw.of_eq {s t : State} (h : s.FramerLaw) (framer : t.host.framer = s.host.framer)
    (gapTimer : t.host.gapTimer = s.host.gapTimer) (pending : t.executor.resetPending = s.executor.resetPending) : t.FramerLaw where
  gap := by rw [framer, gapTimer]; exact h.gap
  discard := by rw [framer, pending]; exact h.discard

/-! ### What leaves the sequence handling alone -/

/-- The sequence handling stays where it is, and the framer stays lawful. -/
structure State.KeepsHost (s t : State) : Prop where
  sequence : t.host.sequence = s.host.sequence
  framer : s.FramerLaw → t.FramerLaw

theorem keepsHost_trans {s t u : State} (h : s.KeepsHost t) (h' : t.KeepsHost u) : s.KeepsHost u :=
  ⟨h'.sequence.trans h.sequence, fun law => h'.framer (h.framer law)⟩

theorem State.HostLaw.of_keeps {s t : State} (h : s.HostLaw) (keeps : s.KeepsHost t) : t.HostLaw := by
  rw [hostLaw_iff, HostPort.InPhase] at h ⊢
  rw [keeps.sequence]
  exact ⟨h.1, keeps.framer h.2⟩

/-- What writes neither the host port nor the executor. -/
theorem keepsHost_of_eq {s t : State} (host : t.host = s.host) (executor : t.executor = s.executor) : s.KeepsHost t :=
  ⟨by rw [host], fun law => law.of_eq (by rw [host]) (by rw [host]) (by rw [executor])⟩

theorem keepsHost_refl (s : State) : s.KeepsHost s := keepsHost_of_eq rfl rfl

theorem keepsHost_of_worked {s t : State} (h : s.workedFrom t) : s.KeepsHost t := by
  obtain ⟨_, _, _, _, _, _, _, _, _, rfl⟩ := h
  exact keepsHost_of_eq rfl rfl

theorem keepsHost_of_changed {s t : State} (h : s.changedFrom t) : s.KeepsHost t := keepsHost_of_worked (workedFrom_of_changed h)

theorem keepsHost_raise (f : Flag) (d : Byte) (s : State) : s.KeepsHost (s.raise f d) := keepsHost_of_worked (raise_worked f d s)

/-- R176: a counted and raised error of the host port. -/
theorem keepsHost_countError (count : HostCounters → HostCounters) (f : Flag) (d : Byte) (s : State) :
    s.KeepsHost ((s.modHost (HostPort.count count)).raise f d) := by
  have counted : s.KeepsHost (s.modHost (HostPort.count count)) := ⟨rfl, fun law => law.of_eq rfl rfl rfl⟩
  exact keepsHost_trans counted (keepsHost_raise f d _)

/-- The output arbiter writes of the host port only what it sends (R174, R175). -/
theorem keepsHost_settle (s : State) : s.KeepsHost s.settle := by
  obtain ⟨_, _, _, _, _, _, _, sends⟩ := hostArbiter_sends s
  have host := (settle_host s).trans sends
  exact ⟨by rw [host]; rfl, fun law => law.of_eq (by rw [host]) (by rw [host]) (by rw [settle_executor])⟩

/-- The gap timer comes down and does not stop (R163, log 4). -/
theorem keepsHost_passTime (s : State) : s.KeepsHost s.passTime where
  sequence := rfl
  framer law := ⟨by simpa [State.passTime, Timer.pass] using law.gap, law.discard⟩

/-! ### Bytes at the host port -/

/-- R163, R165: the frame begun is abandoned, and the error is counted and raised. -/
theorem framingError_eq (s : State) :
    s.framingError =
      ((s.modHost HostPort.unframed).modHost (HostPort.count fun n => { n with framingErrors := satAdd n.framingErrors 1 })).raise
        .hostFraming 0 := rfl

theorem framingError_executor (s : State) : s.framingError.executor = s.executor := by
  obtain ⟨_, _, _, _, _, only⟩ := framingError_only s
  rw [only]

section
variable {s : State} (h : s.HostLaw) (running : s.executor.resetPending = false)
include h running

/-- R163: inside a frame the gap timer runs. -/
theorem hostLaw_framed {f : HostFramer} (inside : f.inFrame = true) : (s.modHost (HostPort.framed f)).HostLaw := by
  refine h.of_keeps ⟨rfl, fun _ => ⟨by simp [HostPort.framed, inside], ?_⟩⟩
  simp only [State.modHost_executor, running, State.modHost_host, HostPort.framed]
  exact ⟨nofun, fun discard => by rw [discard] at inside; cases inside⟩

theorem hostLaw_unframed : (s.modHost HostPort.unframed).HostLaw :=
  h.of_keeps ⟨rfl, fun _ => ⟨by simp [HostPort.unframed, HostFramer.inFrame], by simp [HostPort.unframed, running]⟩⟩

theorem hostLaw_framingError : s.framingError.HostLaw := by
  rw [framingError_eq]
  exact (hostLaw_unframed h running).of_keeps (keepsHost_countError _ _ _ _)

theorem hostLaw_hunt (b : Byte) : (s.modHost (HostPort.hunt b)).HostLaw := by
  rw [modHost_hunt]
  split
  · exact hostLaw_framed h running rfl
  · exact h

end

/-- R168 to R170: an overrun and a retry leave the outstanding request and the cache; an accepted frame is the outstanding one. -/
theorem hostLaw_goodHostFrame {s : State} (h : s.HostLaw) (f : HostFrame) : (s.goodHostFrame f).HostLaw := by
  have accepts {t : State} (ht : t.HostLaw) : (t.modHost (HostPort.accept f)).HostLaw :=
    (hostLaw_iff _).mpr ⟨.inr (.inl ⟨f, rfl⟩), ((hostLaw_iff t).mp ht).2.of_eq rfl rfl rfl⟩
  cases outstanding : s.host.outstanding with
  | true =>
    rw [goodHostFrame_overrun outstanding]
    exact h.of_keeps (keepsHost_countError _ _ _ s)
  | false =>
    cases retry : s.host.retryReply f.seq with
    | some reply =>
      rw [goodHostFrame_retry outstanding retry]
      exact h.of_keeps ⟨rfl, fun law => law.of_eq rfl rfl rfl⟩
    | none =>
      cases gap : s.host.gapBefore f.seq with
      | false =>
        rw [goodHostFrame_accept outstanding retry gap]
        exact accepts h
      | true =>
        rw [goodHostFrame_gap outstanding retry gap]
        exact accepts (h.of_keeps (keepsHost_countError _ _ _ s))

theorem hostLaw_hostFrameComplete {s : State} (h : s.HostLaw) (len : Byte) (got : List Byte) : (s.hostFrameComplete len got).HostLaw := by
  have crc : s.hostCrcError.HostLaw := h.of_keeps (keepsHost_countError _ _ _ s)
  match got with
  | [] | [_] => exact crc
  | seq :: kind :: rest =>
    rw [hostFrameComplete_cons]
    split
    · exact crc
    · exact hostLaw_goodHostFrame h _

theorem hostLaw_hostByte {s : State} (h : s.HostLaw) (b : Byte) : (s.hostByte b).HostLaw := by
  have running := ((hostLaw_iff s).mp h).2.running
  cases state : s.host.framer with
  | hunt =>
    rw [hostByte_hunt state]
    exact hostLaw_hunt h (running (by rw [state]; nofun)) b
  | length =>
    replace running := running (by rw [state]; nofun)
    cases fits : isLength b with
    | true =>
      rw [hostByte_length state fits]
      exact hostLaw_framed h running rfl
    | false =>
      rw [hostByte_badLength state fits]
      exact hostLaw_hunt (hostLaw_framingError h running) (by rw [framingError_executor, running]) b
  | collect len got due =>
    replace running := running (by rw [state]; nofun)
    by_cases more : 2 ≤ due
    · rw [hostByte_collect_more state more]
      exact hostLaw_framed h running rfl
    · rw [hostByte_collect_last state (by omega)]
      exact hostLaw_hostFrameComplete (hostLaw_unframed h running) len _
  | discard =>
    rw [hostByte_discard state]
    exact h

theorem hostLaw_hostTxEnd {s : State} (h : s.HostLaw) : s.hostTxEnd.HostLaw := by
  by_cases last : s.executor.resetPending = true ∧ s.host.queued = none
  · rw [hostTxEnd_resets last.1 last.2]
    exact hostLaw_resetWith _ _ _ _
  · refine h.of_keeps ?_
    rw [State.hostTxEnd, if_neg last]
    exact ⟨rfl, fun law => law.of_eq rfl rfl rfl⟩

/-! ### The rules of the requests -/

/-- A rule that carries its request out leaves the sequence handling alone. -/
def RequestRule.KeepsHost (rule : RequestRule) : Prop := ∀ body s t data, rule body s = .ok (t, data) → s.KeepsHost t

/-- The rules that change no channel and no session: each reports, or writes one block. -/
def plainRules : List RequestRule :=
  [identifyRule, statusRule, setNodeRule, channelWatchRule, channelReadRule, lineSetRule, lineReadRule, combinerReadRule,
    linkConfigRule, linkPolicyRule, linkStatusRule, linkExportRule, linkStatsRule, remoteSendRule, eventsReadRule,
    eventsClearRule, noticeConfigRule, alertConfigRule]

/-- A rule of that list that carries its request out has host port and executor in every branch as it found them. -/
theorem plainRules_leave {rule : RequestRule} (mem : rule ∈ plainRules) {body : List Byte} {s t : State} {data : List Byte}
    (ht : rule body s = .ok (t, data)) : t.host = s.host ∧ t.executor = s.executor := by
  simp only [plainRules, List.mem_cons, List.not_mem_nil, or_false] at mem
  rcases mem with rfl | rfl | rfl | rfl | rfl | rfl | rfl | rfl | rfl | rfl | rfl | rfl | rfl | rfl | rfl | rfl | rfl | rfl
  all_goals
    simp only [identifyRule, statusRule, setNodeRule, channelWatchRule, channelReadRule, lineSetRule, lineReadRule, combinerReadRule,
      linkConfigRule, linkPolicyRule, linkStatusRule, linkExportRule, linkStatsRule, remoteSendRule, eventsReadRule,
      eventsClearRule, noticeConfigRule, alertConfigRule] at ht
    repeat' split at ht
    all_goals cases ht
    all_goals exact ⟨rfl, rfl⟩

theorem plainRules_keepHost {rule : RequestRule} (mem : rule ∈ plainRules) : rule.KeepsHost := fun _ _ _ _ ht =>
  have ⟨host, executor⟩ := plainRules_leave mem ht
  keepsHost_of_eq host executor

/-- R155, R166: reset pending and DISCARD begin together, and the gap timer stops. -/
theorem resetRule_keepsHost : RequestRule.KeepsHost resetRule := by
  intro body s t data ht
  cases ht
  exact ⟨rfl, fun _ => ⟨by simp [State.enterResetPending, HostFramer.inFrame], by simp [State.enterResetPending]⟩⟩

theorem hostStatsRule_keepsHost : RequestRule.KeepsHost hostStatsRule := by
  intro body s t data ht
  unfold hostStatsRule at ht
  repeat' split at ht
  all_goals cases ht
  · exact ⟨rfl, fun law => law.of_eq rfl rfl rfl⟩
  · exact keepsHost_refl s

/-- R13, R15: a channel takes or leaves its source, and an update. -/
theorem keepsHost_sourced (c : ChannelId) (x : Channel) (st : Validity) (v : Bool) (inc : Nat) (s : State) :
    s.KeepsHost (State.change c st v inc (s.setChan c x)) := by
  have sourced : s.KeepsHost (s.setChan c x) := keepsHost_of_eq rfl rfl
  exact keepsHost_trans sourced (keepsHost_of_changed (change_changed c st v inc _))

theorem channelBindRule_keepsHost : RequestRule.KeepsHost channelBindRule := by
  intro body s t data ht
  unfold channelBindRule at ht
  repeat' split at ht
  all_goals cases ht
  exact keepsHost_sourced _ _ _ _ _ s

theorem channelUnbindRule_keepsHost : RequestRule.KeepsHost channelUnbindRule := by
  intro body s t data ht
  unfold channelUnbindRule at ht
  repeat' split at ht
  all_goals cases ht
  unfold State.unbind
  split
  · exact keepsHost_refl s
  · exact keepsHost_sourced _ _ _ _ _ s

theorem channelSetRule_keepsHost {effect : ChannelId → State → State} (changed : ∀ c (s : State), s.changedFrom (effect c s)) :
    RequestRule.KeepsHost (channelSetRule effect) := by
  intro body s t data ht
  unfold channelSetRule at ht
  repeat' split at ht
  all_goals cases ht
  exact keepsHost_of_changed (changed _ s)

/-- A line takes a record and gives its channel a value. -/
theorem keepsHost_lineUpdate (n : LineId) (x : Line) (v : Bool) (inc : Bool → Nat) (s : State) :
    s.KeepsHost ((s.setLine n x).updateBound (.line n) .valid v inc) := by
  have written : s.KeepsHost (s.setLine n x) := keepsHost_of_eq rfl rfl
  exact keepsHost_trans written (keepsHost_of_changed (updateBound_changed _ _ _ _ _))

theorem keepsHost_acceptEdge (n : LineId) (s : State) : s.KeepsHost (s.acceptEdge n) := by
  rw [acceptEdge_eq]
  exact keepsHost_lineUpdate _ _ _ _ s

theorem keepsHost_sampleLine (n : LineId) (level : Bool) (s : State) : s.KeepsHost (s.sampleLine n level) := by
  have sampled (x : Line) : s.KeepsHost (s.setLine n x) := keepsHost_of_eq rfl rfl
  unfold State.sampleLine
  dsimp only
  split
  · exact keepsHost_trans (sampled _) (keepsHost_acceptEdge n _)
  · exact sampled _

theorem lineConfigRule_keepsHost : RequestRule.KeepsHost lineConfigRule := by
  intro body s t data ht
  unfold lineConfigRule at ht
  repeat' split at ht
  all_goals cases ht
  unfold State.configureLine
  dsimp only
  split
  · exact keepsHost_lineUpdate _ _ _ _ s
  · exact keepsHost_of_eq rfl rfl

theorem combinerConfigRule_keepsHost : RequestRule.KeepsHost combinerConfigRule := by
  intro body s t data ht
  unfold combinerConfigRule at ht
  dsimp only at ht
  repeat' split at ht
  all_goals cases ht
  have written (m : CombinerId) (cb : Combiner) : s.KeepsHost (s.setComb m cb) := keepsHost_of_eq rfl rfl
  exact keepsHost_trans (written _ _) (keepsHost_of_changed (giveCombinerUpdate_changed _ _ _))

theorem linkControlRule_keepsHost {act : LinkId → State → Except Status State}
    (worked : ∀ k s t, act k s = .ok t → s.workedFrom t) : RequestRule.KeepsHost (linkControlRule act) := by
  intro body s t data ht
  unfold linkControlRule at ht
  split at ht
  · split at ht
    · generalize acted : act _ _ = verdict at ht
      cases verdict with
      | error e => cases ht
      | ok u => cases ht; exact keepsHost_of_worked (worked _ _ _ acted)
    · cases ht
  · cases ht

theorem enableLink_worked (k : LinkId) (s t : State) (ht : enableLink k s = .ok t) : s.workedFrom t := by
  unfold enableLink at ht
  repeat' split at ht
  all_goals cases ht
  exact modLink_worked k _ s

theorem disableLink_worked (k : LinkId) (s t : State) (ht : disableLink k s = .ok t) : s.workedFrom t := by
  unfold disableLink at ht
  split at ht <;> obtain rfl := Except.ok.inj ht
  · exact workedFrom_refl s
  · exact leaveUp_worked k _ s
  · exact modLink_worked k _ s

theorem restartLink_worked (k : LinkId) (s t : State) (ht : restartLink k s = .ok t) : s.workedFrom t := by
  unfold restartLink at ht
  split at ht
  · cases ht
  all_goals obtain rfl := Except.ok.inj ht
  · exact leaveUp_worked k _ s
  · exact modLink_worked k _ s

/-! ### A granted request -/

/-- R145: a grant of the host's request leaves its SEQ as the last one and the request outstanding until the reply; any other
grant leaves the sequence handling in its phase. -/
structure State.AwaitsReply (s : State) (g : Grant) : Prop where
  host : g.src = .host → s.host.sequence = (some g.req.seq, none, true, none)
  slot : ∀ k, g.src = .slot k → s.host.InPhase
  framer : s.FramerLaw

theorem State.AwaitsReply.of_keeps {s t : State} {g : Grant} (h : s.AwaitsReply g) (keeps : s.KeepsHost t) : t.AwaitsReply g where
  host own := keeps.sequence.trans (h.host own)
  slot k other := by rw [HostPort.InPhase, keeps.sequence]; exact h.slot k other
  framer := keeps.framer h.framer

/-- R144: the request that the host is granted is the accepted one. -/
theorem accepted_of_nextGrant {s : State} {req : HostFrame} (next : s.nextGrant = some ⟨.host, req⟩) : s.host.accepted = some req := by
  obtain ⟨_, _, -, ready, -⟩ := (nextGrant_eq_some (running_of_nextGrant next)).mp next
  exact (ite_eq_iff.mp ready).elim And.right fun none => nomatch none.2

/-- R170: an accepted request is the outstanding one, whose SEQ is the last. -/
theorem sequence_of_accepted {s : State} (h : s.HostLaw) {f : HostFrame} (accepted : s.host.accepted = some f) :
    s.host.sequence = (some f.seq, none, true, some f) := by
  rcases ((hostLaw_iff s).mp h).1 with first | ⟨f', waiting⟩ | ⟨r, answered⟩
  · cases accepted.symm.trans (congrArg (·.2.2.2) first)
  · cases accepted.symm.trans (congrArg (·.2.2.2) waiting)
    exact waiting
  · cases accepted.symm.trans (congrArg (·.2.2.2) answered)

theorem takeGrant_awaitsReply {s : State} (h : s.HostLaw) {g : Grant} (next : s.nextGrant = some g) : (s.takeGrant g).AwaitsReply g := by
  obtain ⟨phase, framer⟩ := (hostLaw_iff s).mp h
  obtain ⟨src, req⟩ := g
  cases src with
  | host =>
    have outstanding := sequence_of_accepted h (accepted_of_nextGrant next)
    exact ⟨fun _ => congrArg (fun q => (q.1, q.2.1, q.2.2.1, none)) outstanding, nofun, framer.of_eq rfl rfl rfl⟩
  | slot k => exact ⟨nofun, fun _ _ => phase, framer.of_eq rfl rfl rfl⟩

/-- R172: the reply to the host's request stands in the cache under the SEQ of that request. -/
theorem State.AwaitsReply.answer {s : State} {g : Grant} (h : s.AwaitsReply g) (status : Status) (data : List Byte) :
    (s.answer g status data).HostLaw := by
  rw [hostLaw_iff]
  obtain ⟨src, req⟩ := g
  cases src with
  | host =>
    refine ⟨.inr (.inr ⟨replyFrame req status data, ?_⟩), h.framer.of_eq rfl rfl rfl⟩
    exact congrArg (fun q => (q.1, some (replyFrame req status data), false, q.2.2.2)) (h.host rfl)
  | slot k => exact ⟨h.slot k rfl, h.framer.of_eq rfl rfl rfl⟩

theorem hostLaw_execute {s : State} (h : s.HostLaw) {g : Grant} (next : s.nextGrant = some g) {rule : RequestRule}
    (keeps : rule.KeepsHost) : (s.execute g rule).HostLaw := by
  have granted := takeGrant_awaitsReply h next
  rcases execute_cases g rule s with ⟨u, data, judged, acted⟩ | ⟨status, -, refused⟩
  · rw [acted]
    rcases judge_cases g rule (s.takeGrant g) with e | e | e | ⟨-, -, -, e⟩ <;> rw [e] at judged
    · cases judged
    · cases judged
    · cases judged
    · exact (granted.of_keeps (keeps _ _ _ _ judged)).answer _ _
  · rw [refused]
    exact granted.answer _ _

/-! ### Events, requests, steps -/

theorem event_keepsHostLaw {occurs : Bool} {effect : State → State} {s t : State} (h : s.HostLaw)
    (keeps : occurs = true → (effect s).HostLaw) (ht : event occurs effect s = .next t) : t.HostLaw := by
  rcases event_cases occurs effect s with idle | ⟨-, on, taken⟩
  · rw [idle] at ht
    cases ht
    exact h
  · rw [taken] at ht
    cases ht
    exact (keeps on).of_keeps (keepsHost_settle _)

/-- An event of a line or a link engine. -/
theorem event_sparesHost {occurs : Bool} {effect : State → State} {s t : State} (h : s.HostLaw) (keeps : s.KeepsHost (effect s))
    (ht : event occurs effect s = .next t) : t.HostLaw := event_keepsHostLaw h (fun _ => h.of_keeps keeps) ht

theorem request_keepsHostLaw {serves : HostFrame → Bool} {rule : RequestRule} {s t : State} (h : s.HostLaw) (keeps : rule.KeepsHost)
    (ht : request serves rule s = .next t) : t.HostLaw := by
  rcases request_cases serves rule s with idle | ⟨g, -, next, -, granted⟩
  · rw [idle] at ht
    cases ht
    exact h
  · rw [granted] at ht
    cases ht
    exact (hostLaw_execute h next keeps).of_keeps (keepsHost_settle _)

theorem request_plain {serves : HostFrame → Bool} {rule : RequestRule} {s t : State} (h : s.HostLaw)
    (ht : request serves rule s = .next t) (mem : rule ∈ plainRules := by simp [plainRules]) : t.HostLaw :=
  request_keepsHostLaw h (plainRules_keepHost mem) ht

/-- Every command keeps the law of the host port. -/
theorem exec_keepsHostLaw (i : Instr) {s t : State} (h : s.HostLaw) (ht : exec i s = .next t) : t.HostLaw := by
  have framer := ((hostLaw_iff s).mp h).2
  have inFrame (inside : s.host.framer.inFrame = true) : s.framingError.HostLaw :=
    hostLaw_framingError h (framer.running fun discard => by rw [discard] at inside; cases inside)
  cases i with
  | powerResetEntry => cases ht; exact hostLaw_resetWith _ _ _ _
  | powerResetExit rate1 rate0 => cases ht; exact (hostLaw_resetWith _ _ _ _).of_keeps (keepsHost_settle _)
  | lineSample n level => exact event_sparesHost h (keepsHost_sampleLine n level s) ht
  | debounceExpiry n => exact event_sparesHost h (keepsHost_acceptEdge n s) ht
  | hostFrameReceived b => exact event_keepsHostLaw h (fun _ => hostLaw_hostByte h b) ht
  | hostBadLength b => exact event_keepsHostLaw h (fun _ => hostLaw_hostByte h b) ht
  | hostByteReceived b => exact event_keepsHostLaw h (fun _ => hostLaw_hostByte h b) ht
  | hostGapTimerExpiry =>
    refine event_keepsHostLaw h (fun out => inFrame (framer.gap.mp ?_)) ht
    rw [(ranOut_iff _).mp out]
    rfl
  | hostCharacterError => exact event_keepsHostLaw h inFrame ht
  | hostTxEnd => exact event_keepsHostLaw h (fun _ => hostLaw_hostTxEnd h) ht
  | unknownKindRequest =>
    exact request_keepsHostLaw (serves := fun r => !isRequestKind r.kind) (rule := unknownKindRule) h (fun _ _ _ _ ht => nomatch ht) ht
  | reset => exact request_keepsHostLaw h resetRule_keepsHost ht
  | hostStats => exact request_keepsHostLaw h hostStatsRule_keepsHost ht
  | identify | status | setNode | channelWatch | channelRead | lineSet | lineRead | combinerRead | linkConfig | linkPolicy
  | linkStatus | linkExport | linkStats | remoteSend | eventsRead | eventsClear | noticeConfig | alertConfig =>
    exact request_plain h ht
  | channelBind => exact request_keepsHostLaw h channelBindRule_keepsHost ht
  | channelUnbind => exact request_keepsHostLaw h channelUnbindRule_keepsHost ht
  | channelSetDrive0 | channelSetDrive1 | channelSetPulse | channelSetWithdraw =>
    exact request_keepsHostLaw h (channelSetRule_keepsHost fun _ _ => update_changed _ _ _ _ _ _) ht
  | lineConfig => exact request_keepsHostLaw h lineConfigRule_keepsHost ht
  | combinerConfig => exact request_keepsHostLaw h combinerConfigRule_keepsHost ht
  | linkControlEnable => exact request_keepsHostLaw h (linkControlRule_keepsHost enableLink_worked) ht
  | linkControlDisable => exact request_keepsHostLaw h (linkControlRule_keepsHost disableLink_worked) ht
  | linkControlRestart => exact request_keepsHostLaw h (linkControlRule_keepsHost restartLink_worked) ht
  | linkFrameReceived k b | linkByteReceived k b => exact event_sparesHost h (keepsHost_of_worked (linkByte_worked k b s)) ht
  | linkFramerGapExpiry k | helloTimerExpiry k | keepaliveTimerExpiry k | holdOffExpiry k | ackTimerExpiry k | linkTxEnd k =>
    exact event_sparesHost h (keepsHost_of_worked (modLink_worked k _ s)) ht
  | silenceTimerExpiry k => exact event_sparesHost h (keepsHost_of_worked (silenceExpiry_worked k s)) ht
  | retransmitTimerExpiry k => exact event_sparesHost h (keepsHost_of_worked (retransmitExpiry_worked k s)) ht
  | remoteEntryTimeout tag => exact event_sparesHost h (keepsHost_of_worked (entryTimeout_worked tag s)) ht

theorem hostLaw_idle {s : State} (h : s.HostLaw) : s.idle.HostLaw := by
  unfold State.idle
  split
  · exact h
  · exact h.of_keeps (keepsHost_trans (keepsHost_settle s) (keepsHost_passTime _))

/-- Settles O57: the sequence handling is in one of three phases (`HostPort.InPhase`), which only an accepted frame, a grant with its
reply and a reset leave. -/
theorem everyStepKeepsHostLaw : Obligations.EveryStepKeepsHostLaw := by
  intro s t h ht
  unfold step at ht
  split at ht
  · cases ht
    exact hostLaw_idle h
  · rename_i rest _
    have popped : s.KeepsHost { s with pending := rest } := keepsHost_of_eq rfl rfl
    exact exec_keepsHostLaw _ (h.of_keeps popped) ht

end Sys2Proof.Machine
end

section
/-! PROOFS. What keeps a law of the event unit: each write of the channels' states and values and of the event unit's fields, and with them every step. -/

namespace Sys2Proof.Machine

/-! ### The writes that a law of the event unit must survive -/

/-- What the event unit reads of a channel record (R184, R191). -/
def Channel.reading (ch : Channel) : Validity × Bool := (ch.state, ch.value)

/-- A law of the event unit: it reads of a state the event unit and the channels' readings, and it survives every write that a step
makes to them. -/
structure EventLaw (P : State → Prop) : Prop where
  frame : ∀ {s t : State}, P s → (∀ c, (t.chan c).reading = (s.chan c).reading) → t.events = s.events → P t
  raise : ∀ f d {s : State}, P s → P (s.raise f d)
  changeConsequent : ∀ c st v inc {s : State}, P s → P (s.changeConsequent c st v inc)
  deliver : ∀ {n rest} {s : State}, P s → s.events.notices = n :: rest → P (s.modEvents (EventUnit.deliver rest))
  clearFlags : ∀ mask {s : State}, P s → P (s.clearFlags mask)
  noticeMask : ∀ mask {s : State}, P s → P (s.modEvents fun e => { e with noticeMask := mask })
  configureAlert : ∀ mask channel invert {s : State}, P s → P (s.configureAlert mask channel invert)
  start : ∀ rate cause held pending, P (State.resetWith rate [.start cause] held pending)
  hold : ∀ rate pending, P (State.resetWith rate [] true pending)

/-- A rule keeps a law where it carries its request out. -/
def RequestRule.KeepsLaw (P : State → Prop) (rule : RequestRule) : Prop :=
  ∀ body s t data, P s → rule body s = .ok (t, data) → P t

/-- The rules that write neither channels nor the event unit. -/
def silentRules : List RequestRule :=
  [unknownKindRule, identifyRule, statusRule, resetRule, setNodeRule, channelReadRule, lineSetRule, lineReadRule, combinerReadRule,
    linkConfigRule, linkPolicyRule, linkStatusRule, linkExportRule, linkStatsRule, remoteSendRule, eventsReadRule, hostStatsRule]

/-- A rule of that list that carries its request out has channels and event unit in every branch as it found them. -/
theorem silentRules_leave {rule : RequestRule} (mem : rule ∈ silentRules) {body : List Byte} {s t : State} {data : List Byte}
    (ht : rule body s = .ok (t, data)) : t.channels = s.channels ∧ t.events = s.events := by
  simp only [silentRules, List.mem_cons, List.not_mem_nil, or_false] at mem
  rcases mem with rfl | rfl | rfl | rfl | rfl | rfl | rfl | rfl | rfl | rfl | rfl | rfl | rfl | rfl | rfl | rfl | rfl
  all_goals
    simp only [unknownKindRule, identifyRule, statusRule, resetRule, setNodeRule, channelReadRule, lineSetRule, lineReadRule,
      combinerReadRule, linkConfigRule, linkPolicyRule, linkStatusRule, linkExportRule, linkStatsRule, remoteSendRule,
      eventsReadRule, hostStatsRule] at ht
    repeat' split at ht
    all_goals cases ht
    all_goals exact ⟨rfl, rfl⟩

namespace EventLaw
variable {P : State → Prop} (w : EventLaw P) {s : State}
include w

/-- What writes neither channels nor the event unit keeps the law. -/
theorem of_eq {t : State} (h : P s) (channels : t.channels = s.channels) (events : t.events = s.events) : P t :=
  w.frame h (fun c => by rw [show t.chan c = s.chan c from congrArg (·.get c) channels]) events

/-! ### Channel changes -/

/-- A channel takes a source or a watch setting. -/
theorem setChan {c : ChannelId} {x : Channel} (h : P s) (same : x.reading = (s.chan c).reading) : P (s.setChan c x) := by
  refine w.frame h (fun d => ?_) rfl
  rw [State.chan_setChan]
  split
  · rename_i own
    rw [own, same]
  · rfl

theorem giveCombinerUpdate (m : CombinerId) (before : Combiner) (h : P s) : P (s.giveCombinerUpdate m before) := by
  unfold State.giveCombinerUpdate
  dsimp only
  split
  · exact h
  · split
    · exact h
    · exact w.changeConsequent _ _ _ _ h

theorem giveUpdates (ms : List CombinerId) (before : CombinerId → Combiner) (h : P s) :
    P (ms.foldl (fun t m => t.giveCombinerUpdate m (before m)) s) := by
  induction ms generalizing s with
  | nil => exact h
  | cons m ms ih => exact ih (w.giveCombinerUpdate m _ h)

/-- R9, R49: a channel change is a written and offered update, and the updates of the combiners' channels. -/
theorem change (c : ChannelId) (st : Validity) (v : Bool) (inc : Nat) (h : P s) : P (s.change c st v inc) := by
  have own := w.changeConsequent c st v inc h
  rw [changeConsequent_eq] at own
  rw [change_eq]
  split
  · rwa [if_pos ‹_›] at own
  · rw [if_neg ‹_›] at own
    have evaluated : P (((s.writeChan c st v inc).offer c inc).evaluateCombiners c) := w.of_eq own rfl rfl
    exact w.giveUpdates allCombiners _ evaluated

theorem update (src : ChannelSource) (c : ChannelId) (st : Validity) (v : Bool) (inc : Nat) (h : P s) :
    P (s.update src c st v inc) := by
  unfold State.update
  split
  · exact w.change c st v inc h
  · exact h

/-- The work of a link engine keeps the law, since each write that it is made of does. -/
theorem linkWork : LinkWork fun s t => P s → P t where
  refl _ h := h
  trans first second h := second (first h)
  modLink _ _ _ h := w.of_eq h rfl rfl
  modRemote _ _ h := w.of_eq h rfl rfl
  raise f d _ h := w.raise f d h
  update src c st v inc _ h := w.update src c st v inc h

/-! ### The line bank -/

/-- A line takes a record and gives its channel a value. -/
theorem lineUpdate (n : LineId) (x : Line) (v : Bool) (inc : Bool → Nat) (h : P s) :
    P ((s.setLine n x).updateBound (.line n) .valid v inc) :=
  w.linkWork.updateBound _ _ _ _ _ (w.of_eq (t := s.setLine n x) h rfl rfl)

theorem acceptEdge (n : LineId) (h : P s) : P (s.acceptEdge n) := by
  rw [acceptEdge_eq]
  exact w.lineUpdate n _ _ _ h

theorem sampleLine (n : LineId) (level : Bool) (h : P s) : P (s.sampleLine n level) := by
  have sampled (x : Line) : P (s.setLine n x) := w.of_eq h rfl rfl
  unfold State.sampleLine
  dsimp only
  split
  · exact w.acceptEdge n (sampled _)
  · exact sampled _

theorem configureLine (n : LineId) (st : LineSettings) (h : P s) : P (s.configureLine n st) := by
  unfold State.configureLine
  dsimp only
  split
  · exact w.lineUpdate n _ _ _ h
  · exact w.of_eq h rfl rfl

/-! ### The host port -/

theorem modHost (f : HostPort → HostPort) (h : P s) : P (s.modHost f) := w.of_eq h rfl rfl

theorem framingError (h : P s) : P s.framingError := w.raise _ _ (w.modHost _ h)

theorem goodHostFrame (f : HostFrame) (h : P s) : P (s.goodHostFrame f) := by
  unfold State.goodHostFrame
  split
  · exact w.raise _ _ (w.modHost _ h)
  · split
    · exact w.modHost _ h
    · split
      · exact w.modHost _ (w.raise _ _ (w.modHost _ h))
      · exact w.modHost _ h

theorem hostFrameComplete (len : Byte) (got : List Byte) (h : P s) : P (s.hostFrameComplete len got) := by
  have crc : P s.hostCrcError := w.raise _ _ (w.modHost _ h)
  match got with
  | [] | [_] => exact crc
  | seq :: kind :: rest =>
    rw [hostFrameComplete_cons]
    split
    · exact crc
    · exact w.goodHostFrame _ h

theorem hostByte (b : Byte) (h : P s) : P (s.hostByte b) := by
  unfold State.hostByte
  split
  · exact w.modHost _ h
  · split
    · exact w.modHost _ (w.framingError h)
    · exact w.modHost _ h
  · split
    · exact w.hostFrameComplete _ _ (w.modHost _ h)
    · exact w.modHost _ h
  · exact h

theorem hostTxEnd (h : P s) : P s.hostTxEnd := by
  unfold State.hostTxEnd
  dsimp only
  split
  · exact w.start _ _ _ _
  · exact w.modHost _ h

/-! ### The arbiters and the passing of time -/

/-- R173: of the event unit the output arbiter takes the notice that it sends. -/
theorem hostArbiter (h : P s) : P s.hostArbiter := by
  unfold State.hostArbiter
  split
  · exact h
  · split
    · exact w.modHost _ h
    · split
      · exact h
      · split
        · unfold State.beginResult
          split
          · exact w.of_eq h rfl rfl
          · exact w.of_eq h rfl rfl
        · split
          · exact w.modHost _ (w.deliver h ‹_›)
          · exact h

theorem settle (h : P s) : P s.settle := by
  obtain ⟨_, _, links⟩ := linkArbiters_only allLinks s.hostArbiter
  rw [State.settle, links]
  exact w.of_eq (w.hostArbiter h) rfl rfl

theorem idle (h : P s) : P s.idle := by
  unfold State.idle
  split
  · exact h
  · exact w.of_eq (w.settle h) rfl rfl

/-! ### The rules of the requests -/

theorem channelBindRule_keeps : channelBindRule.KeepsLaw P := by
  intro body s t data h ht
  unfold channelBindRule at ht
  repeat' split at ht
  all_goals cases ht
  exact w.change _ _ _ _ (w.setChan h rfl)

theorem channelUnbindRule_keeps : channelUnbindRule.KeepsLaw P := by
  intro body s t data h ht
  unfold channelUnbindRule at ht
  repeat' split at ht
  all_goals cases ht
  unfold State.unbind
  split
  · exact h
  · exact w.change _ _ _ _ (w.setChan h rfl)

/-- R17 to R19: each action is an update from the host. -/
theorem channelSetRule_keeps {effect : ChannelId → State → State}
    (host : ∀ c s, ∃ st v inc, effect c s = s.update .host c st v inc) : (channelSetRule effect).KeepsLaw P := by
  intro body s t data h ht
  unfold channelSetRule at ht
  repeat' split at ht
  all_goals cases ht
  obtain ⟨_, _, _, acts⟩ := host ‹_› s
  rw [acts]
  exact w.update _ _ _ _ _ h

theorem channelWatchRule_keeps : channelWatchRule.KeepsLaw P := by
  intro body s t data h ht
  unfold channelWatchRule at ht
  repeat' split at ht
  all_goals cases ht
  exact w.setChan h rfl

theorem lineConfigRule_keeps : lineConfigRule.KeepsLaw P := by
  intro body s t data h ht
  unfold lineConfigRule at ht
  repeat' split at ht
  all_goals cases ht
  exact w.configureLine _ _ h

theorem combinerConfigRule_keeps : combinerConfigRule.KeepsLaw P := by
  intro body s t data h ht
  unfold combinerConfigRule at ht
  dsimp only at ht
  repeat' split at ht
  all_goals cases ht
  have written (m : CombinerId) (cb : Combiner) : P (s.setComb m cb) := w.of_eq h rfl rfl
  exact w.giveCombinerUpdate _ _ (written _ _)

omit w in
theorem linkControlRule_keeps {act : LinkId → State → Except Status State} (keeps : ∀ k s t, act k s = .ok t → P s → P t) :
    (linkControlRule act).KeepsLaw P := by
  intro body s t data h ht
  unfold linkControlRule at ht
  split at ht
  · split at ht
    · generalize acted : act _ _ = verdict at ht
      cases verdict with
      | error e => cases ht
      | ok u => cases ht; exact keeps _ _ _ acted h
    · cases ht
  · cases ht

theorem enableLink_keeps (k : LinkId) (s t : State) (ht : enableLink k s = .ok t) : P s → P t := by
  unfold enableLink at ht
  repeat' split at ht
  all_goals cases ht
  exact w.linkWork.modLink k _ s

theorem disableLink_keeps (k : LinkId) (s t : State) (ht : disableLink k s = .ok t) : P s → P t := by
  unfold disableLink at ht
  split at ht <;> obtain rfl := Except.ok.inj ht
  · exact id
  · exact w.linkWork.leaveUp k _ s
  · exact w.linkWork.modLink k _ s

theorem restartLink_keeps (k : LinkId) (s t : State) (ht : restartLink k s = .ok t) : P s → P t := by
  unfold restartLink at ht
  split at ht
  · cases ht
  all_goals obtain rfl := Except.ok.inj ht
  · exact w.linkWork.leaveUp k _ s
  · exact w.linkWork.modLink k _ s

theorem eventsClearRule_keeps : eventsClearRule.KeepsLaw P := by
  intro body s t data h ht
  unfold eventsClearRule at ht
  split at ht <;> cases ht
  exact w.clearFlags _ h

theorem noticeConfigRule_keeps : noticeConfigRule.KeepsLaw P := by
  intro body s t data h ht
  unfold noticeConfigRule at ht
  split at ht <;> cases ht
  exact w.noticeMask _ h

theorem alertConfigRule_keeps : alertConfigRule.KeepsLaw P := by
  intro body s t data h ht
  unfold alertConfigRule at ht
  repeat' split at ht
  all_goals cases ht
  exact w.configureAlert _ _ _ h

theorem silentRules_keep {rule : RequestRule} (mem : rule ∈ silentRules) : rule.KeepsLaw P := fun _ _ _ _ h ht =>
  have ⟨channels, events⟩ := silentRules_leave mem ht
  w.of_eq h channels events

/-! ### Events, requests, steps -/

theorem event_keeps {occurs : Bool} {effect : State → State} {t : State} (h : P s) (keeps : P s → P (effect s))
    (ht : event occurs effect s = .next t) : P t := by
  rcases event_cases occurs effect s with idle | ⟨-, -, taken⟩
  · rw [idle] at ht
    cases ht
    exact h
  · rw [taken] at ht
    cases ht
    exact w.settle (keeps h)

/-- R145, R147: a grant and its reply write neither channels nor the event unit. -/
theorem execute {g : Grant} {rule : RequestRule} (h : P s) (keeps : rule.KeepsLaw P) : P (s.execute g rule) := by
  have granted : P (s.takeGrant g) := by
    obtain ⟨_, only⟩ := takeGrant_only g s
    rw [only]
    exact w.of_eq h rfl rfl
  have answered (status : Status) (data : List Byte) {u : State} (hu : P u) : P (u.answer g status data) := by
    obtain ⟨_, _, only⟩ := answer_only g status data u
    rw [only]
    exact w.of_eq hu rfl rfl
  rcases execute_cases g rule s with ⟨u, data, judged, acted⟩ | ⟨status, -, refused⟩
  · rw [acted]
    refine answered _ _ ?_
    rcases judge_cases g rule (s.takeGrant g) with e | e | e | ⟨-, -, -, e⟩ <;> rw [e] at judged
    · cases judged
    · cases judged
    · cases judged
    · exact keeps _ _ _ _ granted judged
  · rw [refused]
    exact answered _ _ granted

theorem request_keeps {serves : HostFrame → Bool} {rule : RequestRule} {t : State} (h : P s) (keeps : rule.KeepsLaw P)
    (ht : request serves rule s = .next t) : P t := by
  rcases request_cases serves rule s with idle | ⟨g, -, -, -, granted⟩
  · rw [idle] at ht
    cases ht
    exact h
  · rw [granted] at ht
    cases ht
    exact w.settle (w.execute h keeps)

theorem request_silent {serves : HostFrame → Bool} {rule : RequestRule} {t : State} (h : P s)
    (ht : request serves rule s = .next t) (mem : rule ∈ silentRules := by simp [silentRules]) : P t :=
  w.request_keeps h (w.silentRules_keep mem) ht

/-- Every command keeps the law. -/
theorem exec_keeps (i : Instr) {t : State} (h : P s) (ht : exec i s = .next t) : P t := by
  cases i with
  | powerResetEntry => cases ht; exact w.hold _ _
  | powerResetExit rate1 rate0 => cases ht; exact w.settle (w.start _ _ _ _)
  | lineSample n level => exact w.event_keeps h (w.sampleLine n level) ht
  | debounceExpiry n => exact w.event_keeps h (w.acceptEdge n) ht
  | hostFrameReceived b | hostBadLength b | hostByteReceived b => exact w.event_keeps h (w.hostByte b) ht
  | hostGapTimerExpiry | hostCharacterError => exact w.event_keeps h w.framingError ht
  | hostTxEnd => exact w.event_keeps h w.hostTxEnd ht
  | unknownKindRequest => exact w.request_silent (serves := fun r => !isRequestKind r.kind) (rule := unknownKindRule) h ht
  | identify | status | reset | setNode | channelRead | lineSet | lineRead | combinerRead | linkConfig | linkPolicy | linkStatus
  | linkExport | linkStats | remoteSend | eventsRead | hostStats => exact w.request_silent h ht
  | channelBind => exact w.request_keeps h w.channelBindRule_keeps ht
  | channelUnbind => exact w.request_keeps h w.channelUnbindRule_keeps ht
  | channelSetDrive0 | channelSetDrive1 | channelSetPulse | channelSetWithdraw =>
    exact w.request_keeps h (w.channelSetRule_keeps fun _ _ => ⟨_, _, _, rfl⟩) ht
  | channelWatch => exact w.request_keeps h w.channelWatchRule_keeps ht
  | lineConfig => exact w.request_keeps h w.lineConfigRule_keeps ht
  | combinerConfig => exact w.request_keeps h w.combinerConfigRule_keeps ht
  | linkControlEnable => exact w.request_keeps h (linkControlRule_keeps w.enableLink_keeps) ht
  | linkControlDisable => exact w.request_keeps h (linkControlRule_keeps w.disableLink_keeps) ht
  | linkControlRestart => exact w.request_keeps h (linkControlRule_keeps w.restartLink_keeps) ht
  | eventsClear => exact w.request_keeps h w.eventsClearRule_keeps ht
  | noticeConfig => exact w.request_keeps h w.noticeConfigRule_keeps ht
  | alertConfig => exact w.request_keeps h w.alertConfigRule_keeps ht
  | linkFrameReceived k b | linkByteReceived k b => exact w.event_keeps h (w.linkWork.linkByte k b s) ht
  | linkFramerGapExpiry k | helloTimerExpiry k | keepaliveTimerExpiry k | holdOffExpiry k | ackTimerExpiry k | linkTxEnd k =>
    exact w.event_keeps h (w.linkWork.modLink k _ s) ht
  | silenceTimerExpiry k => exact w.event_keeps h (w.linkWork.silenceExpiry k s) ht
  | retransmitTimerExpiry k => exact w.event_keeps h (w.linkWork.retransmitExpiry k s) ht
  | remoteEntryTimeout tag => exact w.event_keeps h (w.linkWork.entryTimeout tag s) ht

/-- A law of the event unit is kept by every step. -/
theorem step_keeps {t : State} (h : P s) (ht : step s = .next t) : P t := by
  unfold step at ht
  split at ht
  · cases ht
    exact w.idle h
  · rename_i rest _
    have popped : P { s with pending := rest } := w.of_eq h rfl rfl
    exact w.exec_keeps _ popped ht

end EventLaw

end Sys2Proof.Machine
end

section
/-! PROOFS. ALERTN is exact, and the notice queue lawful, after every step: O52, O53. -/

namespace Sys2Proof.Machine

/-! ### The event unit's part of an offer -/

theorem offerEvents_watched {s : State} {c : ChannelId} (watched : (s.chan c).watch = true) (inc : Nat) :
    s.offerEvents c inc =
      if s.events.alertChannel = some c then (s.noticeChange c inc).evalAlert else s.noticeChange c inc := by
  simp only [State.offerEvents, watched, if_true, noticeChange_alertChannel]

theorem offerEvents_unwatched {s : State} {c : ChannelId} (unwatched : (s.chan c).watch = false) (inc : Nat) :
    s.offerEvents c inc = if s.events.alertChannel = some c then s.evalAlert else s := by
  simp [State.offerEvents, unwatched]

/-! ### ALERTN -/

/-- R191: the condition of ALERTN reads flags, masks and settings of the event unit, and the reading of the alert channel. -/
theorem alertHolds_congr {s t : State} (flags : t.events.flags = s.events.flags) (mask : t.events.alertMask = s.events.alertMask)
    (channel : t.events.alertChannel = s.events.alertChannel) (invert : t.events.alertInvert = s.events.alertInvert)
    (readings : ∀ c, s.events.alertChannel = some c → (t.chan c).reading = (s.chan c).reading) : t.alertHolds = s.alertHolds := by
  simp only [State.alertHolds, State.alertChannelHolds, flags, mask, channel, invert]
  cases named : s.events.alertChannel with
  | none => rfl
  | some c =>
    obtain ⟨state, value⟩ := Prod.mk.inj (readings c named)
    simp only [Channel.alerts, state, value]

/-- R191: a re-evaluation makes ALERTN exact. -/
theorem alertExact_evalAlert (s : State) : s.evalAlert.alertExact := rfl

theorem alertExact_dropNotice {s : State} (h : s.alertExact) : s.dropNotice.alertExact := by
  unfold State.dropNotice
  split
  · exact h
  · exact alertExact_evalAlert _

theorem alertExact_queueNotice {s : State} (h : s.alertExact) (n : Notice) : (s.queueNotice n).alertExact := by
  unfold State.queueNotice
  split
  · exact h
  · exact alertExact_dropNotice h

theorem alertExact_noticeChange {s : State} (h : s.alertExact) (c : ChannelId) (inc : Nat) : (s.noticeChange c inc).alertExact := by
  rw [noticeChange_eq]
  split
  · exact h
  · exact alertExact_queueNotice h _

/-- R191: the offer of a change of the alert channel re-evaluates ALERTN, whatever it was before. -/
theorem alertExact_offerEvents {s : State} {c : ChannelId} (h : s.events.alertChannel ≠ some c → s.alertExact) (inc : Nat) :
    (s.offerEvents c inc).alertExact := by
  cases watched : (s.chan c).watch with
  | true =>
    rw [offerEvents_watched watched]
    split
    · exact alertExact_evalAlert _
    · exact alertExact_noticeChange (h ‹_›) c inc
  | false =>
    rw [offerEvents_unwatched watched]
    split
    · exact alertExact_evalAlert _
    · exact h ‹_›

/-- R7, R191: an update that moves nothing, or writes another channel than the alert channel, leaves the condition of ALERTN; any
other is offered. -/
theorem alertExact_changeConsequent {s : State} (h : s.alertExact) (c : ChannelId) (st : Validity) (v : Bool) (inc : Nat) :
    (s.changeConsequent c st v inc).alertExact := by
  have written (same : ∀ d, s.events.alertChannel = some d → ((s.writeChan c st v inc).chan d).reading = (s.chan d).reading) :
      (s.writeChan c st v inc).alertExact := by
    rw [State.alertExact, alertHolds_congr (s := s) (t := s.writeChan c st v inc) rfl rfl rfl rfl same]
    exact h
  rw [changeConsequent_eq]
  split
  · rename_i unmoved
    refine written fun d _ => ?_
    rw [writeChan_chan_updated]
    split
    · rename_i own
      rw [own, Channel.reading, Channel.reading, Channel.updated, unmoved.1, unmoved.2.1]
    · rfl
  · refine alertExact_offerEvents (fun other => ?_) inc
    refine written fun d named => ?_
    rw [writeChan_chan_updated, if_neg]
    rintro rfl
    exact other named

/-- R179, R184, R190, R191: each write of what the condition of ALERTN reads re-evaluates it. -/
theorem alertExact_eventLaw : EventLaw State.alertExact where
  frame h readings events := by
    rw [State.alertExact, alertHolds_congr (by rw [events]) (by rw [events]) (by rw [events]) (by rw [events]) fun c _ => readings c,
      events]
    exact h
  raise f d s h := by
    unfold State.raise
    split
    · exact h
    · exact alertExact_evalAlert _
  changeConsequent c st v inc s h := alertExact_changeConsequent h c st v inc
  deliver h _ := by
    rw [State.modEvents, eventUnit_deliver_eq]
    exact h
  clearFlags _ _ _ := alertExact_evalAlert _
  noticeMask _ _ h := h
  configureAlert _ _ _ _ _ := alertExact_evalAlert _
  start _ _ _ _ := alertExact_resetWith _ _ _ _
  hold _ _ := alertExact_resetWith _ _ _ _

/-- Settles O52: exactness is a law of the event unit (`alertExact_eventLaw`). -/
theorem everyStepKeepsAlertExact : Obligations.EveryStepKeepsAlertExact :=
  fun _ _ h ht => alertExact_eventLaw.step_keeps h ht

/-! ### The notice queue -/

/-- R182: the law of the notice queue, as a law of the list of notices. -/
structure LawfulNotices (ns : List Notice) : Prop where
  capacity : ns.length ≤ 16
  channels : ∀ c, ns.countP (Notice.isChannel c) ≤ 1
  counts : Notice.lost 0 ∉ ns

theorem noticeLaw_iff (s : State) : s.NoticeLaw ↔ LawfulNotices s.events.notices :=
  ⟨fun ⟨capacity, channels, counts⟩ => ⟨capacity, channels, fun mem => counts _ mem rfl⟩,
    fun ⟨capacity, channels, counts⟩ => ⟨capacity, channels, fun _ mem empty => counts (empty ▸ mem)⟩⟩

/-- R182: a new notice finds room, is no second CHANNEL notice of its channel, and is no empty LOST notice. -/
theorem LawfulNotices.append {ns : List Notice} (h : LawfulNotices ns) (room : ns.length < 16) {n : Notice}
    (fresh : ∀ c, n.isChannel c = true → ∀ x ∈ ns, x.isChannel c ≠ true) (counted : n ≠ .lost 0) :
    LawfulNotices (ns ++ [n]) where
  capacity := by simpa using room
  channels c := by
    rw [List.countP_append, List.countP_singleton]
    split
    · rename_i own
      rw [List.countP_eq_zero.mpr (fresh c own)]
    · exact h.channels c
  counts mem := (List.mem_append.mp mem).elim h.counts fun new => counted (List.mem_singleton.mp new).symm

theorem LawfulNotices.tail {n : Notice} {ns : List Notice} (h : LawfulNotices (n :: ns)) : LawfulNotices ns where
  capacity := (Nat.le_succ _).trans h.capacity
  channels c := (List.sublist_cons_self n ns).countP_le.trans (h.channels c)
  counts mem := h.counts (List.mem_cons_of_mem n mem)

theorem isChannel_merge (c d : ChannelId) (st : Validity) (v : Bool) (inc : Nat) (n : Notice) :
    (n.merge c st v inc).isChannel d = n.isChannel d := by
  cases n with
  | channel c' => by_cases own : c' = c <;> simp [Notice.merge, Notice.isChannel, own]
  | _ => rfl

theorem merge_eq_lost {c : ChannelId} {st : Validity} {v : Bool} {inc : Nat} {n : Notice} {w : Word16} :
    n.merge c st v inc = .lost w ↔ n = .lost w := by
  cases n with
  | channel c' => by_cases own : c' = c <;> simp [Notice.merge, own]
  | _ => rfl

/-- R184: a merge leaves every notice in its place, of its kind and, where it is a CHANNEL notice, of its channel. -/
theorem LawfulNotices.merge {ns : List Notice} (h : LawfulNotices ns) (c : ChannelId) (st : Validity) (v : Bool) (inc : Nat) :
    LawfulNotices (ns.map (Notice.merge c st v inc)) where
  capacity := by simpa using h.capacity
  channels d := by simpa only [List.countP_map, Function.comp_def, isChannel_merge] using h.channels d
  counts mem := by
    obtain ⟨n, before, lost⟩ := List.mem_map.mp mem
    exact h.counts (merge_eq_lost.mp lost ▸ before)

section
variable {s : State} (h : s.NoticeLaw)
include h

/-- What leaves the notice queue alone keeps its law. -/
theorem State.NoticeLaw.of_notices {t : State} (same : t.events.notices = s.events.notices) : t.NoticeLaw := by
  rw [noticeLaw_iff] at h ⊢
  rwa [same]

theorem noticeLaw_dropNotice : s.dropNotice.NoticeLaw := by
  obtain ⟨_, _, _, only⟩ := dropNotice_only s
  rw [only]
  exact h.of_notices rfl

theorem noticeLaw_queueNotice {n : Notice} (fresh : ∀ c, n.isChannel c = true → ∀ x ∈ s.events.notices, x.isChannel c ≠ true)
    (counted : n ≠ .lost 0) : (s.queueNotice n).NoticeLaw := by
  unfold State.queueNotice
  split
  · exact (noticeLaw_iff _).mpr (((noticeLaw_iff s).mp h).append ‹_› fresh counted)
  · exact noticeLaw_dropNotice h

theorem noticeLaw_raise (f : Flag) (d : Byte) : (s.raise f d).NoticeLaw := by
  have set : (s.modEvents (EventUnit.setFlag f)).NoticeLaw := h.of_notices rfl
  unfold State.raise
  dsimp only
  split
  · exact h
  · split
    · exact (noticeLaw_queueNotice set (n := .event f d) (fun _ own => nomatch own) nofun).of_notices rfl
    · exact set.of_notices rfl

/-- R184: a new CHANNEL notice is queued only where there is none of its channel. -/
theorem noticeLaw_noticeChange (c : ChannelId) (inc : Nat) : (s.noticeChange c inc).NoticeLaw := by
  rw [noticeChange_eq]
  split
  · exact (noticeLaw_iff _).mpr (((noticeLaw_iff s).mp h).merge c _ _ inc)
  · rename_i none
    refine noticeLaw_queueNotice h (fun d own x mem same => none ⟨x, mem, ?_⟩) nofun
    rwa [show c = d by simpa [Notice.isChannel] using own]

theorem noticeLaw_offerEvents (c : ChannelId) (inc : Nat) : (s.offerEvents c inc).NoticeLaw := by
  cases watched : (s.chan c).watch with
  | true =>
    have noticed := noticeLaw_noticeChange h c inc
    rw [offerEvents_watched watched]
    split
    · exact noticed.of_notices rfl
    · exact noticed
  | false =>
    rw [offerEvents_unwatched watched]
    split
    · exact h.of_notices rfl
    · exact h

theorem noticeLaw_changeConsequent (c : ChannelId) (st : Validity) (v : Bool) (inc : Nat) :
    (s.changeConsequent c st v inc).NoticeLaw := by
  rw [changeConsequent_eq]
  split
  · exact h.of_notices rfl
  · refine noticeLaw_offerEvents ?_ c inc
    exact h.of_notices rfl

/-- R186: the LOST notice takes the place of the notice that leaves, and counts at least one. -/
theorem noticeLaw_deliver {n : Notice} {rest : List Notice} (head : s.events.notices = n :: rest) :
    (s.modEvents (EventUnit.deliver rest)).NoticeLaw := by
  rw [noticeLaw_iff, head] at h
  rw [noticeLaw_iff, State.modEvents_events, eventUnit_deliver_eq]
  dsimp only
  split
  · exact h.tail
  · rename_i lost
    exact h.tail.append h.capacity (fun _ own => nomatch own) (by simpa using lost)

end

/-- R182: each write of the notice queue keeps its law. -/
theorem noticeLaw_eventLaw : EventLaw State.NoticeLaw where
  frame h _ events := h.of_notices (by rw [events])
  raise f d _ h := noticeLaw_raise h f d
  changeConsequent c st v inc _ h := noticeLaw_changeConsequent h c st v inc
  deliver h head := noticeLaw_deliver h head
  clearFlags _ _ h := h.of_notices rfl
  noticeMask _ _ h := h.of_notices rfl
  configureAlert _ _ _ _ h := h.of_notices rfl
  start _ _ _ _ := noticeLaw_resetWith_start _ _ _ _
  hold _ _ := (noticeLaw_iff _).mpr ⟨Nat.zero_le _, fun _ => Nat.zero_le _, List.not_mem_nil⟩

/-- Settles O53: the law of the notice queue is a law of the event unit (`noticeLaw_eventLaw`). -/
theorem everyStepKeepsNoticeLaw : Obligations.EveryStepKeepsNoticeLaw :=
  fun _ _ h ht => noticeLaw_eventLaw.step_keeps h ht

end Sys2Proof.Machine
end

section
/-! PROOFS. Raised causes and dropped notices, the requests of the event unit, flag masks and the condition of ALERTN: O31, O14. -/

namespace Sys2Proof.Machine

/-! ### Raised causes and dropped notices -/

section
variable {s : State} {f : Flag} {d : Byte}

/-- R179: a cause of a set flag does nothing. -/
theorem raise_set (set : s.events.flags.getLsbD f.number = true) : s.raise f d = s := if_pos set

variable (clear : s.events.flags.getLsbD f.number = false)
include clear

theorem raise_disabled (off : s.events.noticeMask.getLsbD f.number = false) :
    s.raise f d = (s.modEvents (EventUnit.setFlag f)).evalAlert := by
  simp [State.raise, EventUnit.isSet, clear, EventUnit.notices?, EventUnit.setFlag, off]

/-- R183: a cause whose notice enable is on queues its EVENT notice. -/
theorem raise_enabled (on : s.events.noticeMask.getLsbD f.number = true) :
    s.raise f d = ((s.modEvents (EventUnit.setFlag f)).queueNotice (.event f d)).evalAlert := by
  simp [State.raise, EventUnit.isSet, clear, EventUnit.notices?, EventUnit.setFlag, on]

end

/-- Settles O31: the cause by its flag, its enable and the room in the queue, and the drop by NOTICE_LOST. -/
theorem raisedCauseSetsItsFlag : Obligations.RaisedCauseSetsItsFlag := by
  refine ⟨fun s f d => ⟨raise_set, fun clear => ?_⟩, fun s => ?_⟩
  · cases enabled : s.events.noticeMask.getLsbD f.number with
    | false =>
      rw [raise_disabled clear enabled]
      rfl
    | true =>
      rw [raise_enabled clear enabled]
      rfl
  · unfold State.dropNotice
    refine if_congr Iff.rfl rfl (congrArg State.evalAlert ?_)
    have lost := apply_ite (satAdd s.events.lost) (s.events.noticeMask.getLsbD 4 = true) 2 1
    exact congrArg (fun n => ({ s with events := { s.events with flags := s.events.flags ||| 16, lost := n } } : State)) lost

/-! ### Flag masks -/

/-- R194: bit `i` of a flag mask, in the byte that holds it; bit 31 is not looked at. -/
theorem flagsOfBytes_getLsbD (b3 b2 b1 b0 : Byte) {i : Nat} (hi : i < 31) :
    (flagsOfBytes b3 b2 b1 b0).getLsbD i =
      (if i < 8 then b0.getLsbD i else if i < 16 then b1.getLsbD (i - 8) else if i < 24 then b2.getLsbD (i - 16)
       else b3.getLsbD (i - 24)) := by
  simp only [flagsOfBytes, BitVec.getLsbD_setWidth, BitVec.getLsbD_append, hi, decide_true, Bool.true_and, Nat.sub_sub]
  by_cases first : i < 8
  · rw [if_pos first, if_pos first]
  · have second : i - 8 < 8 ↔ i < 16 := by omega
    have third : i - 16 < 8 ↔ i < 24 := by omega
    simp only [first, if_false, second, third]

/-- R194: the four bytes of a flag mask name the flags of the mask. -/
theorem flagsOfBytes_bytesOfFlags (f : FlagSet) :
    ∃ b3 b2 b1 b0, bytesOfFlags f = [b3, b2, b1, b0] ∧ flagsOfBytes b3 b2 b1 b0 = f ∧ b3.msb = false := by
  refine ⟨_, _, _, _, rfl, BitVec.eq_of_getLsbD_eq fun i hi => ?_, ?_⟩
  · rw [flagsOfBytes_getLsbD _ _ _ _ hi]
    simp only [BitVec.getLsbD_extractLsb', BitVec.getLsbD_setWidth]
    split_ifs with first second third
    · simp [first, show i < 32 by omega]
    · simp [show i - 8 < 8 by omega, show 8 + (i - 8) = i by omega, show i < 32 by omega]
    · simp [show i - 16 < 8 by omega, show 16 + (i - 16) = i by omega, show i < 32 by omega]
    · simp [show i - 24 < 8 by omega, show 24 + (i - 24) = i by omega, show i < 32 by omega]
  · simp [BitVec.msb_eq_getLsbD_last]

/-! ### The condition of ALERTN -/

theorem and_bne_zero_iff {w : Nat} (x y : BitVec w) :
    ((x &&& y) != 0) = true ↔ ∃ i < w, x.getLsbD i = true ∧ y.getLsbD i = true := by
  rw [bne_iff_ne, ne_eq, ← not_iff_not, not_not]
  constructor
  · rintro none ⟨i, -, hx, hy⟩
    have bit := congrArg (·.getLsbD i) none
    simp [hx, hy] at bit
  · intro none
    refine BitVec.eq_of_getLsbD_eq fun i hi => ?_
    simpa using fun hx hy => none ⟨i, hi, hx, hy⟩

theorem alertChannelHolds_iff (s : State) :
    s.alertChannelHolds = true ↔
      ∃ c, s.events.alertChannel = some c ∧ ((s.chan c).state ≠ .valid ∨ ((s.chan c).value ^^ s.events.alertInvert) = true) := by
  unfold State.alertChannelHolds
  cases s.events.alertChannel with
  | none => simp
  | some c => simp [Channel.alerts]

theorem alertHolds_iff (s : State) :
    s.alertHolds = true ↔
      (∃ i < 31, s.events.flags.getLsbD i = true ∧ s.events.alertMask.getLsbD i = true) ∨
        ∃ c, s.events.alertChannel = some c ∧ ((s.chan c).state ≠ .valid ∨ ((s.chan c).value ^^ s.events.alertInvert) = true) := by
  rw [State.alertHolds, Bool.or_eq_true, and_bne_zero_iff, alertChannelHolds_iff]

/-! ### The requests of the event unit -/

@[simp] theorem takeGrant_events (g : Grant) (s : State) : (s.takeGrant g).events = s.events := by
  obtain ⟨_, only⟩ := takeGrant_only g s
  rw [only]

/-- R190: the alert channels that a byte names: a channel, 0xFF for none, and nothing else. -/
theorem alertChannelOf_eq (b : Byte) :
    alertChannelOf b = if 64 ≤ b.toNat ∧ b ≠ 0xFF then none else some (channelOf b) := by
  unfold alertChannelOf
  by_cases none : b = 0xFF
  · rw [if_pos none, if_neg fun bad => bad.2 none, none]
    rfl
  · rw [if_neg none]
    cases named : channelOf b with
    | none => rw [if_pos ⟨channelOf_eq_none.mp named, none⟩]; rfl
    | some c =>
      rw [if_neg]
      · rfl
      · rintro ⟨high, -⟩
        rw [channelOf_eq_none.mpr high] at named
        cases named

/-- Settles O14, request by request, and then the mask and the condition bit by bit. -/
theorem eventRequestsAnswerAndAct : Obligations.EventRequestsAnswerAndAct := by
  refine ⟨⟨fun s g h => ?_, fun s g b3 b2 b1 b0 h => ?_, fun s g b3 b2 b1 b0 h => ?_, fun s g b3 b2 b1 b0 cb i h => ?_⟩,
    fun b3 b2 b1 b0 i hi => flagsOfBytes_getLsbD b3 b2 b1 b0 hi, flagsOfBytes_bytesOfFlags, rfl, fun _ => rfl,
    fun s => ⟨rfl, alertHolds_iff s⟩⟩
  · rw [exec, execEventsRead, request_of_grants h (ofKind_of_grants h) rfl rfl, eventsReadRule, takeGrant_events]
    rfl
  · rw [exec, execEventsClear, request_of_grants h (ofKind_of_grants h) rfl rfl, eventsClearRule, takeGrant_events]
    rfl
  · rw [exec, execNoticeConfig, request_of_grants h (ofKind_of_grants h) rfl rfl]
    rfl
  · rw [exec, execAlertConfig, request_of_grants h (ofKind_of_grants h) rfl rfl, alertConfigRule, alertChannelOf_eq, boolOf_eq]
    congr 1
    by_cases channel : 64 ≤ cb.toNat ∧ cb ≠ 0xFF
    · rw [if_pos channel, if_pos (Or.inl channel : _ ∨ 2 ≤ i.toNat)]
      rfl
    · by_cases invert : 2 ≤ i.toNat
      · rw [if_neg channel, if_pos invert, if_pos (Or.inr invert : (64 ≤ cb.toNat ∧ cb ≠ 0xFF) ∨ _)]
        rfl
      · rw [if_neg channel, if_neg invert, if_neg (not_or.mpr ⟨channel, invert⟩)]
        rfl

end Sys2Proof.Machine
end

section
/-! PROOFS. The layouts of reports, frames and notices, and the codes that they carry: O20. -/

namespace Sys2Proof.Machine

/-! ### Bytes that are packed from fields -/

/-- The byte `b` is the number `v`, written in its low `k` bits. -/
structure Packed (k : Nat) (b : Byte) (v : Nat) : Prop where
  value : b.toNat = v
  fits : v < 2 ^ k

/-- A field of `n` bits above `k` bits that are packed. -/
theorem Packed.field {k n : Nat} {low high : Byte} {v u : Nat} (hl : Packed k low v) (hh : Packed n high u) (room : k + n ≤ 8) :
    Packed (k + n) (low ||| high <<< k) (v + 2 ^ k * u) := by
  have below : v + 2 ^ k * u < 2 ^ (k + n) := by
    have top : 2 ^ k * (u + 1) ≤ 2 ^ k * 2 ^ n := Nat.mul_le_mul_left _ hh.fits
    rw [pow_add]
    have small := hl.fits
    rw [Nat.mul_succ] at top
    omega
  refine ⟨?_, below⟩
  have byte : u <<< k < 2 ^ 8 := by
    rw [Nat.shiftLeft_eq, Nat.mul_comm]
    exact ((Nat.le_add_left _ v).trans_lt below).trans_le (Nat.pow_le_pow_right (by decide) room)
  rw [BitVec.toNat_or, BitVec.toNat_shiftLeft, hl.value, hh.value, Nat.mod_eq_of_lt byte, Nat.or_comm,
    ← Nat.shiftLeft_add_eq_or_of_lt hl.fits, Nat.shiftLeft_eq, Nat.mul_comm, Nat.add_comm]

theorem packed_byteOfBool (b : Bool) : Packed 1 (byteOfBool b) b.toNat := by
  cases b
  · exact ⟨rfl, by decide⟩
  · exact ⟨rfl, by decide⟩

theorem bitAt_eq (k : Nat) (b : Bool) : bitAt k b = byteOfBool b <<< k := by
  cases b
  · simp [bitAt, byteOfBool]
  · rfl

/-- A Bool above `k` bits that are packed. -/
theorem Packed.bit {k : Nat} {low : Byte} {v : Nat} (hl : Packed k low v) (b : Bool) (room : k + 1 ≤ 8) :
    Packed (k + 1) (low ||| bitAt k b) (v + 2 ^ k * b.toNat) := by
  rw [bitAt_eq]
  exact hl.field (packed_byteOfBool b) room

/-! ### The fields of the reports -/

theorem packed_kindCode (src : ChannelSource) : Packed 3 src.kindCode src.kindCode.toNat :=
  ⟨rfl, by cases src <;> simp [ChannelSource.kindCode]⟩
theorem packed_validity (st : Validity) : Packed 2 st.code st.code.toNat := ⟨rfl, by cases st <;> decide⟩
theorem packed_mode (m : LineMode) : Packed 2 m.code m.code.toNat := ⟨rfl, by cases m <;> decide⟩
theorem packed_pull (p : Pull) : Packed 2 p.code p.code.toNat := ⟨rfl, by cases p <;> decide⟩
theorem packed_output (o : OutputType) : Packed 1 o.code o.code.toNat := ⟨rfl, by cases o <;> decide⟩
theorem packed_stale (a : StaleAction) : Packed 2 a.code a.code.toNat := ⟨rfl, by cases a <;> decide⟩
theorem packed_drive (d : Drive) : Packed 2 d.code d.code.toNat := ⟨rfl, by cases d <;> decide⟩

theorem toNat_byteOfNat {n : Nat} (small : n < 256) : (byteOfNat n).toNat = n := by
  rw [byteOfNat, BitVec.toNat_ofNat, Nat.mod_eq_of_lt small]

/-- R24: a source index is a line number at most. -/
theorem packed_index (src : ChannelSource) : Packed 5 src.index src.index.toNat := by
  refine ⟨rfl, ?_⟩
  have index {n : Nat} (i : Fin n) (few : n ≤ 24) : (byteOfNat i).toNat < 2 ^ 5 := by
    have := i.isLt
    rw [toNat_byteOfNat (by omega)]
    omega
  cases src with
  | none | host => decide
  | line n => exact index n (by decide)
  | link k | linkStat k => exact index k (by decide)
  | combiner m => exact index m (by decide)

/-- R194: a two-byte number stands high byte first. -/
theorem bytesOf16_toNat (w : Word16) : ∃ hi lo, bytesOf16 w = [hi, lo] ∧ 256 * hi.toNat + lo.toNat = w.toNat := by
  refine ⟨_, _, rfl, ?_⟩
  simp only [BitVec.extractLsb'_toNat, Nat.shiftRight_eq_div_pow]
  omega

theorem channel_report (ch : Channel) (ex : LinkId → Bool) : ∃ b0 b1 hi lo, ch.report ex = [b0, b1, hi, lo] ∧
    b0.toNat = ch.source.kindCode.toNat + 8 * ch.source.index.toNat ∧
    b1.toNat = ch.state.code.toNat + 4 * ch.value.toNat + 8 * ch.watch.toNat + 16 * (ex 0).toNat + 32 * (ex 1).toNat +
      64 * (ex 2).toNat + 128 * (ex 3).toNat ∧
    256 * hi.toNat + lo.toNat = ch.edges.toNat := by
  obtain ⟨hi, lo, bytes, edges⟩ := bytesOf16_toNat ch.edges
  have source := (packed_kindCode ch.source).field (packed_index ch.source) (by decide)
  have value := ((packed_validity ch.state).bit ch.value (by decide)).bit ch.watch (by decide)
  have exports := (((value.bit (ex 0) (by decide)).bit (ex 1) (by decide)).bit (ex 2) (by decide)).bit (ex 3) (by decide)
  exact ⟨_, _, hi, lo, by rw [Channel.report, bytes]; rfl, source.value, exports.value, edges⟩

theorem line_report (l : Line) : ∃ b0 b3 hi lo, l.report = [b0, l.debounce, l.driver.code, b3, hi, lo] ∧
    b0.toNat = l.mode.code.toNat + 4 * l.pull.code.toNat + 16 * l.inverted.toNat + 32 * l.output.code.toNat +
      64 * l.idle.toNat + 128 * l.manual.toNat ∧
    b3.toNat = l.stale.code.toNat + 4 * l.drive.code.toNat + 16 * l.raw.toNat + 32 * l.debounced.toNat ∧
    256 * hi.toNat + lo.toNat = l.edges.toNat := by
  obtain ⟨hi, lo, bytes, edges⟩ := bytesOf16_toNat l.edges
  have pulled := ((packed_mode l.mode).field (packed_pull l.pull) (by decide)).bit l.inverted (by decide)
  have settings := ((pulled.field (packed_output l.output) (by decide)).bit l.idle (by decide)).bit l.manual (by decide)
  have driven := (packed_stale l.stale).field (packed_drive l.drive) (by decide)
  have levels := (driven.bit l.raw (by decide)).bit l.debounced (by decide)
  exact ⟨_, _, hi, lo, by rw [Line.report, bytes]; rfl, settings.value, levels.value, edges⟩

theorem member_report (mb : Member) (input valid : Bool) : ∃ b1 : Byte, mb.report input valid = [byteOfNat mb.channel, b1] ∧
    b1.toNat = mb.invert.toNat + 2 * input.toNat + 4 * valid.toNat :=
  ⟨_, rfl, (((packed_byteOfBool mb.invert).bit input (by decide)).bit valid (by decide)).value⟩

/-! ### Frames and lengths -/

/-- 11 section 11.4: the example of a CHANGE frame. -/
theorem changeFrame_example : ∃ crc,
    LinkFrame.bytes ⟨0x03, 0, 0, ChangeEntry.bytes ⟨7, false, true, 0⟩ ++ ChangeEntry.bytes ⟨8, true, true, 4⟩⟩ =
      [0xC3, 0x03, 0x00, 0x00, 0x04, 0x47, 0x00, 0xC8, 0x04] ++ bytesOf16 crc := ⟨_, rfl⟩

theorem linkLengthFits_eq (kind : Byte) (len : Nat) :
    linkLengthFits kind len =
      if kind = 1 then decide (len = 6)
      else if kind = 2 then decide (len = 0)
      else if kind = 3 then decide (len ∈ [2, 4, 6, 8, 10, 12])
      else if kind = 4 then decide (2 ≤ len ∧ len ≤ 59)
      else if kind = 5 then decide (3 ≤ len ∧ len ≤ 59)
      else false := by
  unfold linkLengthFits
  split
  next h => obtain rfl := (eq_ofNat_iff kind 1 (by decide)).mpr h; rfl
  next h => obtain rfl := (eq_ofNat_iff kind 2 (by decide)).mpr h; rfl
  next h => obtain rfl := (eq_ofNat_iff kind 3 (by decide)).mpr h; simp [beq_eq_decide, Bool.or_assoc]
  next h => obtain rfl := (eq_ofNat_iff kind 4 (by decide)).mpr h; simp
  next h => obtain rfl := (eq_ofNat_iff kind 5 (by decide)).mpr h; simp
  next =>
    rw [if_neg, if_neg, if_neg, if_neg, if_neg]
    all_goals rintro rfl; contradiction

/-- Settles O20: the reports field by field, and the frames, notices and codes as their definitions lay them out. -/
theorem reportAndFrameLayouts : Obligations.ReportAndFrameLayouts := by
  refine ⟨⟨channel_report, line_report, member_report, rfl, rfl⟩,
    ⟨fun f short => ⟨_, toNat_lenByte short, rfl⟩, fun f short => ⟨_, toNat_byteOfNat (by omega), rfl⟩, bytesOf16_toNat,
      fun cause => by cases cause <;> rfl, fun _ _ => rfl, fun _ st _ _ => by cases st <;> rfl, fun _ => rfl, fun _ => rfl,
      by decide +kernel, changeFrame_example⟩,
    rfl, rfl, rfl, rfl, rfl, fun c => toNat_byteOfNat (c.isLt.trans (by decide)), rfl, rfl, rfl, rfl, rfl, rfl, rfl,
    linkLengthFits_eq⟩

end Sys2Proof.Machine
end

section
/-! PROOFS. How the formats of chapter 11 are read again: the CRC, CHANGE entries, and the bytes of a whole link frame: O49, O51. -/

namespace Sys2Proof.Machine

/-! ### The CRC -/

theorem crc16_snoc (bs : List Byte) (b : Byte) : crc16 (bs ++ [b]) = crcByte (crc16 bs) b := List.foldl_concat ..

/-- R195 step 3: while no 1 leaves position 15, a shift combines nothing. -/
theorem crcShift_byte (b : Byte) {n : Nat} (inside : n < 8) :
    crcShift (b.setWidth 16 <<< n) = b.setWidth 16 <<< (n + 1) := by
  have top : (b.setWidth 16 <<< n).msb = false := by
    rw [BitVec.msb_eq_getLsbD_last, BitVec.getLsbD_shiftLeft, BitVec.getLsbD_setWidth, BitVec.getLsbD_of_ge b _ (by omega)]
    simp
  rw [crcShift, top, BitVec.shiftLeft_add]
  rfl

/-- R195 step 3: eight shifts carry a byte from the low half of the register into the high half. -/
theorem crcShift_eight_byte (b : Byte) : crcShift^[8] (b.setWidth 16) = b.setWidth 16 <<< 8 := by
  have shifts (n : Nat) (few : n ≤ 8) : crcShift^[n] (b.setWidth 16) = b.setWidth 16 <<< n := by
    induction n with
    | zero => simp
    | succ n ih => rw [Function.iterate_succ_apply', ih (by omega), crcShift_byte b few]
  exact shifts 8 (Nat.le_refl 8)

theorem crcByte_eq (r : Word16) (b : Byte) : crcByte r b = crcShift^[8] (r ^^^ (b.setWidth 16 <<< 8)) := rfl

/-- R194: the register is its two bytes, the high one 8 positions up. -/
theorem eq_low_xor_high (r : Word16) :
    r = (r.extractLsb' 0 8).setWidth 16 ^^^ ((r.extractLsb' 8 8).setWidth 16 <<< 8) := by
  ext i inside
  by_cases low : i < 8
  · simp [low, BitVec.getLsbD_eq_getElem inside]
  · simp [low, show i - 8 < 8 by omega, show 8 + (i - 8) = i by omega, BitVec.getLsbD_eq_getElem inside]

/-- R195: the register's own high byte clears its high half, so that only its low byte is shifted up. -/
theorem crcByte_high (r : Word16) : crcByte r (r.extractLsb' 8 8) = (r.extractLsb' 0 8).setWidth 16 <<< 8 := by
  have cleared : r ^^^ ((r.extractLsb' 8 8).setWidth 16 <<< 8) = (r.extractLsb' 0 8).setWidth 16 := by
    nth_rw 1 [eq_low_xor_high r]
    rw [BitVec.xor_assoc, BitVec.xor_self, BitVec.xor_zero]
  rw [crcByte_eq, cleared, crcShift_eight_byte]

/-- R195: a byte that stands in the high half alone clears the register. -/
theorem crcByte_clears (b : Byte) : crcByte (b.setWidth 16 <<< 8) b = 0 := by
  rw [crcByte_eq, BitVec.xor_self]
  exact crcShift_eight_byte 0

/-- R195: a register that takes its own two bytes, high byte first, is left at 0. -/
theorem crcByte_own_bytes (r : Word16) : (bytesOf16 r).foldl crcByte r = 0 := by
  rw [bytesOf16, List.foldl_cons, List.foldl_cons, List.foldl_nil, crcByte_high, crcByte_clears]

/-- Settles O49: the register byte by byte, the two check values, and the residue. -/
theorem crcRegister : Obligations.CrcRegister := by
  refine ⟨⟨rfl, fun bs b => ?_, by decide +kernel, by decide +kernel⟩, fun bs => ?_⟩
  · have shift : crcShift = fun r : Word16 => if r.getLsbD 15 then (r <<< 1) ^^^ 0x1021 else r <<< 1 := rfl
    rw [crc16_snoc, crcByte_eq, shift]
  · rw [crc16, List.foldl_append]
    exact crcByte_own_bytes _

/-! ### CHANGE entries -/

/-- A bit of a byte is read off the byte's number. -/
theorem getLsbD_of_toNat_div {b : Byte} {i : Nat} {x : Bool} (bit : b.toNat / 2 ^ i % 2 = x.toNat) : b.getLsbD i = x := by
  rw [← BitVec.testBit_toNat, Nat.testBit_eq_decide_div_mod_eq, bit]
  cases x <;> rfl

/-- R198: the first byte of an entry is the channel, VALID at bit 6 and the value at bit 7. -/
theorem packed_entryByte (e : ChangeEntry) :
    Packed 8 (byteOfNat e.channel ||| bitAt 6 e.valid ||| bitAt 7 e.value)
      (e.channel + 2 ^ 6 * e.valid.toNat + 2 ^ 7 * e.value.toNat) := by
  have channel : Packed 6 (byteOfNat e.channel) e.channel :=
    ⟨toNat_byteOfNat (e.channel.isLt.trans (by decide)), e.channel.isLt⟩
  exact (channel.bit e.valid (by decide)).bit e.value (by decide)

/-- R198: two bytes that hold the fields of an entry give that entry. -/
theorem changeEntryOf_packed {e : ChangeEntry} {b0 b1 : Byte}
    (first : Packed 8 b0 (e.channel + 2 ^ 6 * e.valid.toNat + 2 ^ 7 * e.value.toNat)) (second : Packed 4 b1 e.edges) :
    changeEntryOf b0 b1 = e := by
  have number := first.value
  have inside : (e.channel : Nat) < 64 := e.channel.isLt
  have valid := Bool.toNat_le e.valid
  have value := Bool.toNat_le e.value
  have channelRead : Fin.ofNat 64 (b0.toNat % 64) = e.channel := Fin.ext (by rw [Fin.val_ofNat]; omega)
  have valueRead : b0.getLsbD 7 = e.value := getLsbD_of_toNat_div (by omega)
  have validRead : b0.getLsbD 6 = e.valid := getLsbD_of_toNat_div (by omega)
  have edgesRead : b1.toNat % 16 = e.edges := by
    rw [second.value]
    exact Nat.mod_eq_of_lt second.fits
  rw [changeEntryOf, channelRead, valueRead, validRead, edgesRead]

/-- R198: an entry is read from the two bytes that it is written into. -/
theorem changeEntryOf_bytes (e : ChangeEntry) (few : e.edges ≤ 15) :
    changeEntryOf (byteOfNat e.channel ||| bitAt 6 e.valid ||| bitAt 7 e.value) (byteOfNat e.edges) = e :=
  changeEntryOf_packed (packed_entryByte e) ⟨toNat_byteOfNat (by omega), Nat.lt_succ_of_le few⟩

/-- R198: the entries of a body are read in the order in which they were written. -/
theorem changeEntriesOf_bytes (es : List ChangeEntry) (few : ∀ e ∈ es, e.edges ≤ 15) :
    changeEntriesOf (es.flatMap ChangeEntry.bytes) = es := by
  induction es with
  | nil => rfl
  | cons e es ih =>
    obtain ⟨fewOfHead, fewOfTail⟩ := List.forall_mem_cons.mp few
    rw [List.flatMap_cons, ChangeEntry.bytes, List.cons_append, List.cons_append, List.nil_append, changeEntriesOf,
      changeEntryOf_bytes e fewOfHead, ih fewOfTail]

/-! ### The bytes of a whole link frame -/

/-- R197: the framer takes its next state, and with it the gap timer. -/
def Link.framed (f : LinkFramer) (l : Link) : Link := { l with framer := f, gapTimer := f.gap }

/-- R197: of the framer's states only the last one stays. -/
theorem modLink_framed_framed (k : LinkId) (f g : LinkFramer) (s : State) :
    (s.modLink k (Link.framed f)).modLink k (Link.framed g) = s.modLink k (Link.framed g) := by
  have last : Link.framed g ((s.modLink k (Link.framed f)).linkAt k) = Link.framed g (s.linkAt k) := by
    rw [State.linkAt_modLink, if_pos rfl]
    rfl
  rw [State.modLink, last, State.modLink, State.modLink, Vector.set_set]

section
variable {k : LinkId} {b : Byte} {f g : LinkFramer} {s : State}

theorem linkAt_modLink_framed : ((s.modLink k (Link.framed f)).linkAt k).framer = f := by
  rw [State.linkAt_modLink, if_pos rfl]
  rfl

theorem linkByte_modLink_framed (taken : f.take b = (g, none)) :
    (s.modLink k (Link.framed f)).linkByte k b = s.modLink k (Link.framed g) := by
  rw [linkByte_framed (f := g) (by rw [linkAt_modLink_framed, taken])]
  exact modLink_framed_framed k f g s

theorem linkByte_modLink_completes {got : List Byte} (taken : f.take b = (g, some got)) :
    (s.modLink k (Link.framed f)).linkByte k b =
      (s.modLink k (Link.framed g)).takeFrame k (receivedFrame got).1 (receivedFrame got).2 := by
  rw [linkByte_completes (f := g) (by rw [linkAt_modLink_framed, taken])]
  exact congrArg _ (modLink_framed_framed k f g s)

end

/-- R197: a start byte begins a frame while hunting. -/
theorem linkByte_start {s : State} {k : LinkId} (hunting : (s.linkAt k).framer = .hunting) :
    s.linkByte k Config.linkStart = s.modLink k (Link.framed (.header [])) :=
  linkByte_framed (by rw [hunting]; rfl)

/-- R197: the four header bytes say how many bytes follow. -/
theorem linkBytes_header (k : LinkId) (kind seq ack len : Byte) (s : State) (fits : len.toNat ≤ 64) :
    [kind, seq, ack, len].foldl (fun t b => t.linkByte k b) (s.modLink k (Link.framed (.header []))) =
      s.modLink k (Link.framed (.body [kind, seq, ack, len] (len.toNat + 2))) := by
  have full : (LinkFramer.header [kind, seq, ack]).take len = (.body [kind, seq, ack, len] (len.toNat + 2), none) := by
    rw [take_header_full rfl, if_neg (Nat.not_lt.mpr fits)]
    rfl
  simp only [List.foldl_cons, List.foldl_nil]
  rw [linkByte_modLink_framed (take_header_short (by simp)), linkByte_modLink_framed (take_header_short (by simp)),
    linkByte_modLink_framed (take_header_short (by simp))]
  exact linkByte_modLink_framed full

/-- R197: after the header every byte is taken as it comes, start bytes included, and the last one completes the frame. -/
theorem linkBytes_body (k : LinkId) (bs : List Byte) (b : Byte) (got : List Byte) (s : State) :
    (bs ++ [b]).foldl (fun t b => t.linkByte k b) (s.modLink k (Link.framed (.body got (bs.length + 1)))) =
      (s.modLink k (Link.framed .hunting)).takeFrame k (receivedFrame (got ++ (bs ++ [b]))).1
        (receivedFrame (got ++ (bs ++ [b]))).2 := by
  induction bs generalizing got with
  | nil => exact linkByte_modLink_completes (take_body_last (Nat.le_refl 1))
  | cons x bs ih =>
    have more : 2 ≤ (x :: bs).length + 1 := by simp
    rw [List.cons_append, List.foldl_cons, linkByte_modLink_framed (take_body_more more)]
    simpa using ih (got ++ [x])

/-- R85: what a frame's own fields and CRC make is that frame, and it passes the check when its length fits its kind. -/
theorem receivedFrame_frame (f : LinkFrame) (short : f.body.length ≤ 64) :
    receivedFrame (f.covered ++ bytesOf16 (crc16 f.covered)) = (f, linkLengthFits f.kind f.body.length) := by
  have len : (byteOfNat f.body.length).toNat = f.body.length := toNat_byteOfNat (by omega)
  have fields : f.covered ++ bytesOf16 (crc16 f.covered) =
      f.kind :: f.seq :: f.ack :: byteOfNat f.body.length :: (f.body ++ bytesOf16 (crc16 f.covered)) := rfl
  rw [fields, receivedFrame_cons, len]
  dsimp only
  rw [List.take_left, List.drop_left, ← LinkFrame.covered, decide_eq_true rfl, Bool.true_and]

/-- R197, R198: the bytes of a link frame pass the framer's three states and are received as that frame. -/
theorem linkBytes_frame (f : LinkFrame) (s : State) (k : LinkId) (short : f.body.length ≤ 64)
    (hunting : (s.linkAt k).framer = .hunting) :
    f.bytes.foldl (fun t b => t.linkByte k b) s =
      (s.modLink k (Link.framed .hunting)).takeFrame k f (linkLengthFits f.kind f.body.length) := by
  have len : (byteOfNat f.body.length).toNat = f.body.length := toNat_byteOfNat (by omega)
  obtain ⟨high, low, crc⟩ : ∃ high low, bytesOf16 (crc16 f.covered) = [high, low] := ⟨_, _, rfl⟩
  have bytes : f.bytes =
      Config.linkStart :: ([f.kind, f.seq, f.ack, byteOfNat f.body.length] ++ ((f.body ++ [high]) ++ [low])) := by
    simp [LinkFrame.bytes, LinkFrame.covered, ← crc]
  have whole : [f.kind, f.seq, f.ack, byteOfNat f.body.length] ++ ((f.body ++ [high]) ++ [low]) =
      f.covered ++ bytesOf16 (crc16 f.covered) := by
    simp [LinkFrame.covered, ← crc]
  have due : (byteOfNat f.body.length).toNat + 2 = (f.body ++ [high]).length + 1 := by simp [len]
  rw [bytes, List.foldl_cons, linkByte_start hunting, List.foldl_append, linkBytes_header _ _ _ _ _ _ (len.trans_le short),
    due, linkBytes_body, whole, receivedFrame_frame f short]

/-- Settles O51: a whole frame, and the entries of a CHANGE frame. -/
theorem linkFrameBytesAreReceivedAsThatFrame : Obligations.LinkFrameBytesAreReceivedAsThatFrame :=
  ⟨linkBytes_frame, changeEntriesOf_bytes⟩

end Sys2Proof.Machine
end

section
/-! PROOFS. The step on a waiting command: O1. -/

namespace Sys2Proof.Machine

/-- A step on a queue that is not empty is its front command, run with the queue's rest; `step_idle` is the other case. -/
theorem step_front {s : State} {c : Instr} {rest : List Instr} (waiting : s.pending = c :: rest) :
    step s = exec c { s with pending := rest } := by
  simp only [step, waiting]

/-- Settles O1: with `c` put in front of the queue of `s`, the queue's rest is that of `s`. -/
theorem stepRunsFrontCommand : Obligations.StepRunsFrontCommand :=
  fun _ _ => step_front rfl

end Sys2Proof.Machine
end

section
/-! PROOFS. The numbers of a retransmit queue, what the laws of a link engine read of its record, and the operations of reliable delivery, each of which keeps these laws (R86, R87, R90 to R95, R107, R108). -/

namespace Sys2Proof.Machine

/-! ### Consecutive numbers -/

theorem byteOfNat_succ (n : Nat) : byteOfNat (n + 1) = byteOfNat n + 1 := BitVec.ofNat_add n 1

/-- R92: each record's number, by its place. -/
theorem consecutive_iff {next : Byte} {q : List FrameRecord} :
    consecutive next q ↔ ∀ (i : Nat) (h : i < q.length), q[i].seq = next - byteOfNat (q.length - i) := by
  simp [consecutive, List.ext_getElem_iff]

theorem consecutive_append {next : Byte} {q : List FrameRecord} (h : consecutive next q) (kind : DataKind) (body : List Byte) :
    consecutive (next + 1) (q ++ [⟨next, kind, body⟩]) := by
  rw [consecutive_iff] at h ⊢
  intro i hi
  rw [List.length_append, List.length_singleton] at hi ⊢
  rcases Nat.lt_succ_iff_lt_or_eq.mp hi with before | rfl
  · rw [List.getElem_append_left before, h i before, Nat.sub_add_comm before.le, byteOfNat_succ]
    bv_omega
  · rw [List.getElem_concat_length rfl, Nat.add_sub_cancel_left, byteOfNat]
    bv_omega

theorem consecutive_drop {next : Byte} {q : List FrameRecord} (h : consecutive next q) (d : Nat) : consecutive next (q.drop d) := by
  rw [consecutive_iff] at h ⊢
  intro i hi
  rw [List.getElem_drop, h, List.length_drop, Nat.sub_sub]

theorem mem_numbers {next : Byte} {q : List FrameRecord} (h : consecutive next q) {p : Byte} :
    p ∈ q.map FrameRecord.seq ↔ ∃ i < q.length, p = next - byteOfNat (q.length - i) := by
  rw [h]
  simp [eq_comm]

/-- R81, R92: the oldest number stands as far before the next send number as the queue is long. -/
theorem oldest_eq {l : Link} (h : consecutive l.nextSend l.queue) : l.oldest = l.nextSend - byteOfNat l.queue.length := by
  unfold Link.oldest
  cases queue : l.queue with
  | nil => simp [byteOfNat]
  | cons r rest =>
    rw [queue] at h
    exact consecutive_iff.mp h 0 (Nat.zero_lt_succ _)

theorem distance_oldest {l : Link} (h : consecutive l.nextSend l.queue) (short : l.queue.length < 256) {i : Nat}
    (hi : i ≤ l.queue.length) : distance l.oldest (l.nextSend - byteOfNat (l.queue.length - i)) = i := by
  have place : l.nextSend - byteOfNat (l.queue.length - i) = l.oldest + BitVec.ofNat 8 i := by
    rw [oldest_eq h]
    obtain ⟨m, len⟩ := Nat.exists_eq_add_of_le hi
    rw [len, Nat.add_sub_cancel_left, byteOfNat, byteOfNat, BitVec.ofNat_add]
    bv_omega
  rw [place, distance_add_ofNat, Nat.mod_eq_of_lt (hi.trans_lt short)]

/-! ### What the laws read -/

/-- What `Link.QueueLaw` reads of a link. -/
def Link.queuePart (l : Link) : LinkState × Byte × Byte × List FrameRecord × Timer × Option Byte :=
  (l.state, l.config.window, l.nextSend, l.queue, l.retransmitTimer, l.resendPoint)

/-- What `Link.ListLaw` reads of a link. -/
def Link.listPart (l : Link) : LinkState × ChannelSet × List ChangeEntry := (l.state, l.exported, l.changes)

/-- What `Link.SessionLaw` reads of a link. -/
def Link.sessionPart (l : Link) : LinkState × (Timer × Timer × Timer × Timer) × Bool × Bool × (Bool × Bool × Timer) × Slot :=
  (l.state, (l.helloTimer, l.keepaliveTimer, l.silenceTimer, l.holdOffTimer), l.helloOwed, l.keepaliveDue,
    (l.ackOwed, l.ackDue, l.ackTimer), l.slot)

section
variable {l l' : Link}

theorem Link.QueueLaw.congr (h : l.QueueLaw) (same : l'.queuePart = l.queuePart) : l'.QueueLaw := by
  simp only [Link.queuePart, Prod.mk.injEq] at same
  obtain ⟨state, window, next, queue, timer, point⟩ := same
  exact ⟨by rw [queue, window]; exact h.window, by rw [window]; exact h.eight, by rw [next, queue]; exact h.numbers,
    by rw [state, queue]; exact h.down, by rw [timer, queue]; exact h.timer, by rw [point, queue]; exact h.resend⟩

theorem Link.ListLaw.congr (h : l.ListLaw) (same : l'.listPart = l.listPart) : l'.ListLaw := by
  simp only [Link.listPart, Prod.mk.injEq] at same
  obtain ⟨state, exported, changes⟩ := same
  exact ⟨by rw [changes]; exact h.distinct, by simpa only [changes, Link.exports, exported] using h.exported,
    by rw [changes]; exact h.edges, by rw [state, changes]; exact h.down⟩

theorem Link.SessionLaw.congr (h : l.SessionLaw) (same : l'.sessionPart = l.sessionPart) : l'.SessionLaw := by
  simp only [Link.sessionPart, Prod.mk.injEq] at same
  obtain ⟨state, ⟨hello, keepalive, silence, holdOff⟩, helloOwed, keepaliveDue, ⟨ackOwed, ackDue, ackTimer⟩, slot⟩ := same
  exact ⟨by rw [hello, state]; exact h.hello, by rw [silence, state]; exact h.silence,
    by rw [keepalive, state]; exact h.keepalive, by rw [holdOff, state]; exact h.holdOff,
    by rw [helloOwed, state]; exact h.helloOwed, by rw [keepaliveDue, state]; exact h.keepaliveDue,
    by rw [ackOwed, state]; exact h.ackOwed, by rw [ackTimer, ackOwed]; exact h.ackTimer,
    by rw [ackDue, ackOwed]; exact h.ackDue, by rw [state, slot]; exact h.slot⟩

/-- A record that differs in nothing that the laws read. -/
theorem Link.Law.congr (h : l.Law) (queue : l'.queuePart = l.queuePart) (list : l'.listPart = l.listPart)
    (session : l'.sessionPart = l.sessionPart) : l'.Law :=
  ⟨h.queue.congr queue, h.list.congr list, h.session.congr session⟩

end

/-! ### Acks -/

section
variable {l : Link}

/-- R92: a queue holds at most 8 records. -/
theorem Link.QueueLaw.short (h : l.QueueLaw) : l.queue.length < 256 := by
  have few := h.window.trans h.eight
  omega

/-- R87: the resend point of a removed record moves to the oldest record that is left; any other names a record that is left. -/
theorem Link.QueueLaw.resend_drop (h : l.QueueLaw) {d : Nat} {r : FrameRecord} {rest : List FrameRecord}
    (left : l.queue.drop d = r :: rest) {p : Byte} (point : l.resendPoint = some p) :
    (if distance l.oldest p < d then r.seq else p) ∈ (r :: rest).map FrameRecord.seq := by
  split
  · exact List.mem_cons_self
  · rename_i kept
    obtain ⟨i, hi, rfl⟩ := (mem_numbers h.numbers).mp (h.resend p point)
    rw [distance_oldest h.numbers h.short hi.le] at kept
    rw [← left, mem_numbers (consecutive_drop h.numbers d), List.length_drop]
    refine ⟨i - d, by omega, ?_⟩
    rw [Nat.sub_sub, Nat.add_sub_cancel' (Nat.not_lt.mp kept)]

theorem Link.QueueLaw.takeAck (h : l.QueueLaw) (a : Byte) : (l.takeAck a).QueueLaw := by
  by_cases bad : distance l.oldest l.nextSend < distance l.oldest a
  · rw [takeAck_bad bad]
    exact h.congr rfl
  by_cases nothing : distance l.oldest a = 0
  · rwa [takeAck_nothing nothing]
  have valid := Nat.not_lt.mp bad
  cases left : l.queue.drop (distance l.oldest a) with
  | nil =>
    rw [takeAck_all valid nothing left]
    exact ⟨Nat.zero_le _, h.eight, rfl, fun _ => rfl, by simp, nofun⟩
  | cons r rest =>
    rw [takeAck_part valid nothing left]
    have numbers := consecutive_drop h.numbers (distance l.oldest a)
    have fewer : (r :: rest).length ≤ l.queue.length := left ▸ (List.drop_sublist _ _).length_le
    rw [left] at numbers
    refine ⟨fewer.trans h.window, h.eight, numbers, fun down => ?_, by simp, fun p point => ?_⟩
    · rw [h.down down, List.drop_nil] at left
      cases left
    · obtain ⟨p, before, rfl⟩ := Option.map_eq_some_iff.mp point
      exact h.resend_drop left before

theorem listPart_takeAck (a : Byte) (l : Link) : (l.takeAck a).listPart = l.listPart := by
  unfold Link.takeAck Link.afterRemoval
  dsimp only
  repeat' split
  all_goals rfl

theorem sessionPart_takeAck (a : Byte) (l : Link) : (l.takeAck a).sessionPart = l.sessionPart := by
  unfold Link.takeAck Link.afterRemoval
  dsimp only
  repeat' split
  all_goals rfl

theorem Link.Law.takeAck (h : l.Law) (a : Byte) : (l.takeAck a).Law :=
  ⟨h.queue.takeAck a, h.list.congr (listPart_takeAck a l), h.session.congr (sessionPart_takeAck a l)⟩

/-- R90: an ack is owed in UP alone. -/
theorem Link.Law.oweAck (h : l.Law) (up : l.state = .up) : l.oweAck.Law where
  queue := h.queue.congr rfl
  list := h.list.congr rfl
  session := { h.session with
    hello := h.session.hello
    silence := h.session.silence
    ackOwed := fun _ => up
    ackTimer := fun _ => rfl
    ackDue := fun _ => rfl }

/-! ### The pending change list -/

theorem satEdges_le (n : Nat) : satEdges n ≤ Config.entryEdges := Nat.min_le_left _ _

theorem edges_mergeChange {c : ChannelId} {v ok : Bool} {inc : Nat} {es : List ChangeEntry}
    (h : ∀ e ∈ es, e.edges ≤ Config.entryEdges) : ∀ e ∈ mergeChange c v ok inc es, e.edges ≤ Config.entryEdges := by
  induction es with
  | nil => simpa [mergeChange] using satEdges_le inc
  | cons e es ih =>
    obtain ⟨head, tail⟩ := List.forall_mem_cons.mp h
    rw [mergeChange]
    split
    · exact List.forall_mem_cons.mpr ⟨satEdges_le _, tail⟩
    · exact List.forall_mem_cons.mpr ⟨head, ih tail⟩

/-- R108: a merge adds no channel but its own, and that at the tail. -/
theorem channels_mergeChange (c : ChannelId) (v ok : Bool) (inc : Nat) (es : List ChangeEntry) :
    (mergeChange c v ok inc es).map ChangeEntry.channel =
      if c ∈ es.map ChangeEntry.channel then es.map ChangeEntry.channel else es.map ChangeEntry.channel ++ [c] := by
  induction es with
  | nil => rfl
  | cons e es ih =>
    rw [mergeChange]
    by_cases own : e.channel = c
    · simp [own]
    · rw [if_neg own, List.map_cons, ih]
      by_cases later : c ∈ es.map ChangeEntry.channel
      · simp [later]
      · simp [later, Ne.symm own]

/-- R107, R108: the law of the list survives an offer. -/
theorem Link.ListLaw.takeOffer (h : l.ListLaw) (c : ChannelId) (ch : Channel) (inc : Nat) : (l.takeOffer c ch inc).ListLaw := by
  unfold Link.takeOffer
  split
  · rename_i taken
    have channels := channels_mergeChange c ch.value (ch.state == .valid) inc l.changes
    have distinct : ((mergeChange c ch.value (ch.state == .valid) inc l.changes).map ChangeEntry.channel).Nodup := by
      rw [channels]
      split
      · exact h.distinct
      · exact h.distinct.append (List.nodup_singleton c) (List.disjoint_singleton.mpr ‹_›)
    have exported : ∀ d ∈ (mergeChange c ch.value (ch.state == .valid) inc l.changes).map ChangeEntry.channel, l.exports d = true := by
      have before : ∀ d ∈ l.changes.map ChangeEntry.channel, l.exports d = true := List.forall_mem_map.mpr h.exported
      rw [channels]
      split
      · exact before
      · exact List.forall_mem_append.mpr ⟨before, List.forall_mem_singleton.mpr taken.2⟩
    exact ⟨distinct, fun e he => exported _ (List.mem_map_of_mem he), edges_mergeChange h.edges, fun down => absurd taken.1 down⟩
  · exact h

theorem Link.Law.takeOffer (h : l.Law) (c : ChannelId) (ch : Channel) (inc : Nat) : (l.takeOffer c ch inc).Law := by
  refine ⟨h.queue.congr ?_, h.list.takeOffer c ch inc, h.session.congr ?_⟩ <;> unfold Link.takeOffer <;> split <;> rfl

/-- R112: the entries that a CHANGE frame takes leave the head of the list. -/
theorem Link.Law.dropChanges (h : l.Law) (n : Nat) : Link.Law { l with changes := l.changes.drop n } where
  queue := h.queue.congr rfl
  list :=
    ⟨h.list.distinct.sublist ((List.drop_sublist n _).map _), fun e he => h.list.exported e (List.mem_of_mem_drop he),
      fun e he => h.list.edges e (List.mem_of_mem_drop he), fun down => by
        rw [show l.changes = [] from h.list.down down, List.drop_nil]⟩
  session := h.session.congr rfl

/-! ### Frames that begin -/

theorem queuePart_begin (kind seq : Byte) (body : List Byte) (l : Link) : (l.begin kind seq body).queuePart = l.queuePart := by
  unfold Link.begin
  dsimp only
  split <;> rfl

theorem listPart_begin (kind seq : Byte) (body : List Byte) (l : Link) : (l.begin kind seq body).listPart = l.listPart := by
  unfold Link.begin
  dsimp only
  split <;> rfl

/-- R98: in UP a beginning frame pays the owed ack and starts the keepalive timer again; in SEEKING it touches the line alone. -/
theorem Link.SessionLaw.begin (h : l.SessionLaw) (kind seq : Byte) (body : List Byte) : (l.begin kind seq body).SessionLaw := by
  unfold Link.begin
  dsimp only
  split
  · rename_i up
    exact { h with
      hello := h.hello
      silence := h.silence
      keepalive := fun _ => up
      keepaliveDue := nofun
      ackOwed := nofun
      ackTimer := nofun
      ackDue := nofun }
  · exact h.congr rfl

theorem Link.Law.begin (h : l.Law) (kind seq : Byte) (body : List Byte) : (l.begin kind seq body).Law :=
  ⟨h.queue.congr (queuePart_begin kind seq body l), h.list.congr (listPart_begin kind seq body l), h.session.begin kind seq body⟩

theorem Link.Law.countSent (h : l.Law) : l.countSent.Law := h.congr rfl rfl rfl

theorem Link.Law.sendHello (h : l.Law) (node : Byte) : (l.sendHello node).Law := by
  have paid : Link.Law { l with helloOwed := false } :=
    ⟨h.queue.congr rfl, h.list.congr rfl,
      { h.session with hello := h.session.hello, silence := h.session.silence, helloOwed := nofun }⟩
  exact (paid.begin _ _ _).countSent

theorem Link.Law.sendAck (h : l.Law) : l.sendAck.Law := (h.begin _ _ _).countSent

/-- R95: the resend point moves to the next record, and past the last one there is none. -/
theorem Link.QueueLaw.afterResend (h : l.QueueLaw) {p : Byte} (mem : p ∈ l.queue.map FrameRecord.seq) :
    Link.QueueLaw { l with resendPoint := l.afterResend p } := by
  refine { h with timer := h.timer, resend := fun next point => ?_ }
  unfold Link.afterResend at point
  split at point
  · cases point
  · rename_i more
    cases point
    obtain ⟨i, hi, rfl⟩ := (mem_numbers h.numbers).mp mem
    have follows : l.nextSend - byteOfNat (l.queue.length - i) + 1 = l.nextSend - byteOfNat (l.queue.length - (i + 1)) := by
      rw [show l.queue.length - i = l.queue.length - (i + 1) + 1 by omega, byteOfNat_succ]
      bv_omega
    rw [follows] at more ⊢
    refine (mem_numbers h.numbers).mpr ⟨i + 1, Nat.lt_of_le_of_ne hi fun last => more ?_, rfl⟩
    simp [← last, byteOfNat]

theorem Link.Law.resend (h : l.Law) (p : Byte) : (l.resend p).Law := by
  unfold Link.resend
  split
  · rename_i r found
    have seq : r.seq = p := by simpa using List.find?_some found
    have moved : Link.Law { l with resendPoint := l.afterResend p } :=
      ⟨h.queue.afterResend (seq ▸ List.mem_map_of_mem (List.mem_of_find?_eq_some found)), h.list.congr rfl, h.session.congr rfl⟩
    exact (moved.begin _ _ _).congr rfl rfl rfl
  · exact ⟨{ h.queue with timer := h.queue.timer, resend := nofun }, h.list.congr rfl, h.session.congr rfl⟩

/-- R91: a new record joins a queue with room, and the retransmit timer runs. -/
theorem Link.QueueLaw.appendRecord (h : l.QueueLaw) (up : l.state = .up) (room : l.queue.length < l.config.window.toNat)
    (kind : DataKind) (body : List Byte) : (l.appendRecord kind body).QueueLaw := by
  have numbers := consecutive_append h.numbers kind body
  unfold Link.appendRecord
  dsimp only
  split
  · rename_i empty
    rw [empty] at room numbers
    refine ⟨room, h.eight, numbers, fun down => absurd up down, by simp, fun p point => ?_⟩
    have mem := h.resend p point
    rw [empty] at mem
    cases mem
  · rename_i filled
    refine ⟨by simpa using room, h.eight, numbers, fun down => absurd up down, ?_, fun p point => ?_⟩
    · simpa [h.timer] using filled
    · rw [List.map_append]
      exact List.mem_append_left _ (h.resend p point)

theorem Link.Law.sendData (h : l.Law) (up : l.state = .up) (room : l.queue.length < l.config.window.toNat) (kind : DataKind)
    (body : List Byte) : (l.sendData kind body).Law := by
  have appended : (l.appendRecord kind body).Law := by
    refine ⟨h.queue.appendRecord up room kind body, h.list.congr ?_, h.session.congr ?_⟩ <;>
      unfold Link.appendRecord <;> dsimp only <;> split <;> rfl
  exact (appended.begin _ _ _).countSent

end

end Sys2Proof.Machine
end

section
/-! PROOFS. The moves of a session, the timers and the settings of a link, each of which keeps the laws of the link engine (R58, R63, R65, R68, R71, R72, R75, R77, R90, R94, R105, R110). -/

namespace Sys2Proof.Machine

section
variable {l : Link}

/-! ### Moves out of UP and between the other states -/

/-- R68, R92, R107: what the laws ask of a transport that nothing is left of. -/
structure Link.Quiet (l : Link) : Prop where
  eight : l.config.window.toNat ≤ 8
  queue : l.queue = []
  timer : l.retransmitTimer = none
  resend : l.resendPoint = none
  changes : l.changes = []
  ackOwed : l.ackOwed = false
  ackDue : l.ackDue = false
  ackTimer : l.ackTimer = none

theorem Link.Law.quiet_of_down (h : l.Law) (down : l.state ≠ .up) : l.Quiet := by
  have queue := h.queue.down down
  have ackOwed : l.ackOwed = false := Bool.not_eq_true _ ▸ fun owed => down (h.session.ackOwed owed)
  refine ⟨h.queue.eight, queue, ?_, ?_, h.list.down down, ackOwed, ?_, ?_⟩
  · simpa [queue] using h.queue.timer
  · refine Option.eq_none_iff_forall_ne_some.mpr fun p point => ?_
    have mem := h.queue.resend p point
    rw [queue] at mem
    cases mem
  · exact Bool.not_eq_true _ ▸ fun due => Bool.noConfusion (ackOwed.symm.trans (h.session.ackDue due))
  · simpa [ackOwed] using h.session.ackTimer

/-- R68: leaving UP leaves nothing of the transport. -/
theorem Link.Law.quiet_clearTransport (h : l.Law) : l.clearTransport.Quiet := ⟨h.queue.eight, rfl, rfl, rfl, rfl, rfl, rfl, rfl⟩

theorem Link.Quiet.queueLaw (h : l.Quiet) : l.QueueLaw :=
  ⟨by simp [h.queue], h.eight, by rw [h.queue]; rfl, fun _ => h.queue, by simp [h.queue, h.timer], by simp [h.resend]⟩

theorem Link.Quiet.listLaw (h : l.Quiet) : l.ListLaw :=
  ⟨by simp [h.changes], by simp [h.changes], by simp [h.changes], fun _ => h.changes⟩

/-- R70, R137: the inbound slot is emptied. -/
def Link.emptied (l : Link) : Link := { l with slot := .empty }

/-- A move to a state other than UP that makes a lawful record of one with no transport and no slot, and leaves the slot. -/
structure LawfulMove (move : Link → Link) : Prop where
  law : ∀ l : Link, l.Quiet → l.slot = .empty → (move l).Law
  slot : ∀ l : Link, (move l).emptied = move l.emptied

theorem lawfulMove_toSeeking : LawfulMove Link.toSeeking where
  law l h slot :=
    have quiet : l.toSeeking.Quiet := ⟨h.eight, h.queue, h.timer, h.resend, h.changes, h.ackOwed, h.ackDue, h.ackTimer⟩
    ⟨quiet.queueLaw, quiet.listLaw, by simp [Link.toSeeking], by simp [Link.toSeeking, Link.stopSession], nofun, nofun,
      fun _ => .inl rfl, nofun, by simp [quiet.ackOwed], by simp [quiet.ackTimer], by simp [quiet.ackDue], fun _ => slot⟩
  slot _ := rfl

theorem lawfulMove_toOff : LawfulMove Link.toOff where
  law l h slot :=
    have quiet : l.toOff.Quiet := ⟨h.eight, h.queue, h.timer, h.resend, h.changes, h.ackOwed, h.ackDue, h.ackTimer⟩
    ⟨quiet.queueLaw, quiet.listLaw, by simp [Link.toOff, Link.stopSession], by simp [Link.toOff, Link.stopSession], nofun, nofun,
      nofun, nofun, by simp [quiet.ackOwed], by simp [quiet.ackTimer], by simp [quiet.ackDue], fun _ => slot⟩
  slot _ := rfl

theorem lawfulMove_toFault (cause : FaultCause) : LawfulMove (Link.toFault cause) where
  law l h slot :=
    have quiet : (l.toFault cause).Quiet := ⟨h.eight, h.queue, h.timer, h.resend, h.changes, h.ackOwed, h.ackDue, h.ackTimer⟩
    ⟨quiet.queueLaw, quiet.listLaw, by simp [Link.toFault, Link.stopSession], by simp [Link.toFault, Link.stopSession], nofun,
      fun _ => rfl, nofun, nofun, by simp [quiet.ackOwed], by simp [quiet.ackTimer], by simp [quiet.ackDue], fun _ => slot⟩
  slot _ := rfl

/-- A link that is not UP may make such a move. -/
theorem Link.Law.moved (h : l.Law) (down : l.state ≠ .up) {move : Link → Link} (lawful : LawfulMove move) : (move l).Law :=
  lawful.law l (h.quiet_of_down down) (h.session.slot down)

/-- R67 to R70: a link that leaves UP makes it with its transport cleared and its slot emptied. -/
theorem Link.Law.left (h : l.Law) {move : Link → Link} (lawful : LawfulMove move) :
    (move l.clearTransport).emptied.Law := by
  rw [lawful.slot]
  have quiet := h.quiet_clearTransport
  exact lawful.law _ ⟨quiet.eight, rfl, rfl, rfl, rfl, rfl, rfl, rfl⟩ rfl

/-! ### Entry into UP -/

/-- R110: the snapshot of a set has one entry for each channel of the set, with no edges. -/
theorem snapshot_channels (set : ChannelSet) (s : State) :
    (s.snapshot set).map ChangeEntry.channel = allChannels.filter fun c : ChannelId => set.getLsbD c := by
  rw [State.snapshot, List.map_map]
  exact List.map_id _

theorem edges_snapshot {set : ChannelSet} {s : State} {e : ChangeEntry} (he : e ∈ s.snapshot set) : e.edges = 0 := by
  obtain ⟨c, -, rfl⟩ := List.mem_map.mp he
  rfl

theorem channel_of_snapshot {set : ChannelSet} {s : State} {e : ChangeEntry} (he : e ∈ s.snapshot set) :
    set.getLsbD e.channel = true := by
  obtain ⟨c, mem, rfl⟩ := List.mem_map.mp he
  exact (List.mem_filter.mp mem).2

theorem nodup_snapshot (set : ChannelSet) (s : State) : ((s.snapshot set).map ChangeEntry.channel).Nodup := by
  rw [snapshot_channels]
  exact (List.nodup_finRange _).filter _

/-- R63, R110: entry into UP from a state that is not UP, with the snapshot of the exported channels. -/
theorem Link.Law.toUp (h : l.Law) (down : l.state ≠ .up) (s : State) : (l.toUp (s.snapshot l.exported)).Law := by
  have quiet := h.quiet_of_down down
  refine ⟨?_, ?_, ?_⟩
  · exact Link.Quiet.queueLaw (l := { l.toUp (s.snapshot l.exported) with changes := [] })
      ⟨quiet.eight, quiet.queue, quiet.timer, quiet.resend, rfl, quiet.ackOwed, quiet.ackDue, quiet.ackTimer⟩ |>.congr rfl
  · have changes : (l.toUp (s.snapshot l.exported)).changes = s.snapshot l.exported := by
      simp [Link.toUp, Link.stopSession, quiet.changes]
    refine ⟨?_, ?_, ?_, fun other => absurd rfl other⟩ <;> rw [changes]
    · exact nodup_snapshot _ s
    · exact fun e => channel_of_snapshot
    · exact fun e he => (edges_snapshot he).trans_le (Nat.zero_le _)
  · exact ⟨by simp [Link.toUp, Link.stopSession], by simp [Link.toUp], fun _ => rfl, nofun, fun _ => .inr rfl, nofun, fun _ => rfl,
      h.session.ackTimer, h.session.ackDue, fun other => absurd rfl other⟩

/-! ### Timers -/

/-- The passing of time stops no timer and starts none. -/
theorem isSome_pass (t : Timer) : (Timer.pass t).isSome = t.isSome := Option.isSome_map

theorem Link.Law.pass (h : l.Law) : l.pass.Law where
  queue := { h.queue with window := h.queue.window, eight := h.queue.eight, timer := by simpa [Link.pass, isSome_pass] using h.queue.timer }
  list := h.list.congr rfl
  session := { h.session with
    hello := by simpa [Link.pass, isSome_pass] using h.session.hello
    silence := by simpa [Link.pass, isSome_pass] using h.session.silence
    keepalive := by simpa [Link.pass, isSome_pass] using h.session.keepalive
    holdOff := by simpa [Link.pass, isSome_pass] using h.session.holdOff
    ackTimer := by simpa [Link.pass, isSome_pass] using h.session.ackTimer }

/-- R58: the HELLO timer runs in SEEKING alone. -/
theorem Link.Law.helloExpiry (h : l.Law) (runs : l.helloTimer.isSome) :
    Link.Law { l with helloOwed := true, helloTimer := some Config.helloTime } where
  queue := h.queue.congr rfl
  list := h.list.congr rfl
  session := { h.session with
    hello := by simpa using h.session.hello.mp runs
    silence := h.session.silence
    helloOwed := fun _ => .inl (h.session.hello.mp runs) }

/-- R65: the keepalive timer runs in UP alone. -/
theorem Link.Law.keepaliveExpiry (h : l.Law) (runs : l.keepaliveTimer.isSome) :
    Link.Law { l with keepaliveDue := true, keepaliveTimer := none } where
  queue := h.queue.congr rfl
  list := h.list.congr rfl
  session := { h.session with
    hello := h.session.hello
    silence := h.session.silence
    keepalive := nofun
    keepaliveDue := fun _ => h.session.keepalive runs }

/-- R90: the ack timer runs while an ack is owed. -/
theorem Link.Law.ackExpiry (h : l.Law) (runs : l.ackTimer.isSome) : Link.Law { l with ackDue := true, ackTimer := none } where
  queue := h.queue.congr rfl
  list := h.list.congr rfl
  session := { h.session with
    hello := h.session.hello
    silence := h.session.silence
    ackTimer := nofun
    ackDue := fun _ => h.session.ackTimer runs }

/-- R72: the hold-off runs in FAULT alone. -/
theorem Link.Law.holdOffExpiry (h : l.Law) (runs : l.holdOffTimer.isSome) : l.holdOffExpiry.Law := by
  unfold Link.holdOffExpiry
  split
  · exact h.moved (by rw [h.session.holdOff runs]; nofun) lawfulMove_toSeeking
  · exact ⟨h.queue.congr rfl, h.list.congr rfl,
      { h.session with hello := h.session.hello, silence := h.session.silence, holdOff := nofun }⟩

/-- R94: a go-back from the oldest record of a queue that is not empty. -/
theorem Link.Law.goBack (h : l.Law) (waits : l.queue ≠ []) (t : Nat) :
    Link.Law { l with resendPoint := some l.oldest, retransmitTimer := some t } where
  queue := { h.queue with
    window := h.queue.window
    eight := h.queue.eight
    timer := by simpa using waits
    resend := fun p point => by
      cases point
      unfold Link.oldest
      cases queue : l.queue with
      | nil => exact absurd queue waits
      | cons r rest => exact List.mem_cons_self }
  list := h.list.congr rfl
  session := h.session.congr rfl

/-- R84: a good frame starts the silence timer of a link that is UP again. -/
theorem Link.Law.heard (h : l.Law) (up : l.state = .up) (t : Nat) : Link.Law { l.countGood with silenceTimer := some t } where
  queue := h.queue.congr rfl
  list := h.list.congr rfl
  session := { h.session with hello := h.session.hello, silence := by simpa [Link.countGood] using up }

/-- R64: a HELLO becomes owed to the peer of a session. -/
theorem Link.Law.answerHello (h : l.Law) (up : l.state = .up) : Link.Law { l with helloOwed := true } where
  queue := h.queue.congr rfl
  list := h.list.congr rfl
  session := { h.session with hello := h.session.hello, silence := h.session.silence, helloOwed := fun _ => .inr up }

/-! ### The inbound slot -/

theorem Link.Law.emptySlot (h : l.Law) : l.emptied.Law where
  queue := h.queue.congr rfl
  list := h.list.congr rfl
  session := { h.session with hello := h.session.hello, silence := h.session.silence, slot := fun _ => rfl }

/-- R138: a request waits in the slot of a link that is UP. -/
theorem Link.Law.fillSlot (h : l.Law) (up : l.state = .up) (slot : Slot) : Link.Law { l with slot := slot } where
  queue := h.queue.congr rfl
  list := h.list.congr rfl
  session := { h.session with hello := h.session.hello, silence := h.session.silence, slot := fun down => absurd up down }

/-- R139: a reply fills no EMPTY slot. -/
theorem Link.Law.replySlot (h : l.Law) (status : Byte) (data : List Byte) : Link.Law { l with slot := l.slot.reply status data } where
  queue := h.queue.congr rfl
  list := h.list.congr rfl
  session := { h.session with
    hello := h.session.hello
    silence := h.session.silence
    slot := fun down => by
      dsimp only
      rw [h.session.slot down]
      rfl }

/-! ### Settings -/

/-- R77: a configuration is taken while the link is in OFF or FAULT, with its queue empty. -/
theorem Link.Law.configured (h : l.Law) (down : l.state ≠ .up) {cf : LinkConfig} (eight : cf.window.toNat ≤ 8) :
    Link.Law { l with config := cf } where
  queue := { h.queue with window := by rw [h.queue.down down]; exact Nat.zero_le _, eight := eight, timer := h.queue.timer }
  list := h.list.congr rfl
  session := h.session.congr rfl

theorem window_of_linkConfigOf {keepalive silence retransmit maxRetries window auto : Byte} {cf : LinkConfig}
    (h : linkConfigOf keepalive silence retransmit maxRetries window auto = some cf) : cf.window.toNat ≤ 8 := by
  unfold linkConfigOf at h
  split at h
  · cases h
  · split at h
    · rename_i ranges
      obtain ⟨-, -, -, -, -, -, -, eight, -⟩ := ranges
      cases h
      exact eight
    · cases h

/-- R105: with a new set of exported channels the list keeps the entries of channels that stay, and takes a snapshot of those that come. -/
theorem Link.Law.exporting (h : l.Law) (set : ChannelSet) (s : State) :
    Link.Law
      { l with
        exported := set
        changes := (l.changes.filter fun e => set.getLsbD e.channel) ++
          (if l.state = .up then s.snapshot (set &&& ~~~l.exported) else []) } where
  queue := h.queue.congr rfl
  list := by
    have kept : ∀ e ∈ l.changes.filter fun e => set.getLsbD e.channel, e ∈ l.changes ∧ set.getLsbD e.channel = true :=
      fun e he => by simpa using he
    have added : ∀ e ∈ s.snapshot (set &&& ~~~l.exported), set.getLsbD e.channel = true ∧ l.exports e.channel = false :=
      fun e he => by simpa [Link.exports] using channel_of_snapshot he
    have distinct : ((l.changes.filter fun e => set.getLsbD e.channel).map ChangeEntry.channel).Nodup :=
      h.list.distinct.sublist (List.filter_sublist.map _)
    by_cases up : l.state = .up
    · simp only [if_pos up]
      refine ⟨?_, ?_, ?_, fun down => absurd up down⟩
      · rw [List.map_append]
        refine distinct.append (nodup_snapshot _ s) fun c before new => ?_
        obtain ⟨e, he, rfl⟩ := List.mem_map.mp before
        obtain ⟨e', he', same⟩ := List.mem_map.mp new
        have out := (added e' he').2
        rw [same, h.list.exported e (kept e he).1] at out
        cases out
      · exact List.forall_mem_append.mpr ⟨fun e he => (kept e he).2, fun e he => (added e he).1⟩
      · exact List.forall_mem_append.mpr
          ⟨fun e he => h.list.edges e (kept e he).1, fun e he => (edges_snapshot he).trans_le (Nat.zero_le _)⟩
    · have none := h.list.down up
      exact ⟨by simp [none, up], by simp [none, up], by simp [none, up], fun _ => by simp [none, up]⟩
  session := h.session.congr rfl

end

end Sys2Proof.Machine
end

section
/-! PROOFS. What a channel change makes of a link, what the arbiters make of one, and that the sessions and the received frames keep the laws of the link engines (R67 to R69, R84 to R90, R97, R108). -/

namespace Sys2Proof.Machine

/-! ### Offers -/

/-- R8, R108: what a run of offers makes of a link. -/
def Link.Offered : Link → Link → Prop := Relation.ReflTransGen fun l l' => ∃ c ch inc, l' = l.takeOffer c ch inc

theorem law_of_offered {l l' : Link} (h : l.Law) (offered : l.Offered l') : l'.Law := by
  induction offered with
  | refl => exact h
  | tail _ offer ih =>
    obtain ⟨c, ch, inc, rfl⟩ := offer
    exact ih.takeOffer c ch inc

/-- R107: a link that is not UP takes no offer. -/
theorem eq_of_offered_down {l l' : Link} (down : l.state ≠ .up) (offered : l.Offered l') : l' = l := by
  induction offered with
  | refl => rfl
  | tail _ offer ih =>
    obtain ⟨c, ch, inc, rfl⟩ := offer
    rw [ih]
    exact if_neg fun taken => down taken.1

/-- From `s` to `t` every link has taken a run of offers, and nothing else. -/
def State.OffersTo (s t : State) : Prop := ∀ k, (s.linkAt k).Offered (t.linkAt k)

theorem offersTo_refl (s : State) : s.OffersTo s := fun _ => .refl

theorem offersTo_trans {s t u : State} (h : s.OffersTo t) (h' : t.OffersTo u) : s.OffersTo u := fun k => (h k).trans (h' k)

theorem offersTo_of_links {s t : State} (links : t.links = s.links) : s.OffersTo t := fun k => by
  rw [show t.linkAt k = s.linkAt k from congrArg (·.get k) links]
  exact .refl

theorem offersTo_offer (c : ChannelId) (inc : Nat) (s : State) : s.OffersTo (s.offer c inc) := fun k => by
  rw [offer_linkAt]
  exact .single ⟨c, s.chan c, inc, rfl⟩

theorem offersTo_changeConsequent (c : ChannelId) (st : Validity) (v : Bool) (inc : Nat) (s : State) :
    s.OffersTo (s.changeConsequent c st v inc) := by
  have written : s.OffersTo (s.writeChan c st v inc) := offersTo_of_links rfl
  rw [changeConsequent_eq]
  split
  · exact written
  · exact offersTo_trans written (offersTo_offer c inc _)

theorem offersTo_giveCombinerUpdate (m : CombinerId) (before : Combiner) (s : State) :
    s.OffersTo (s.giveCombinerUpdate m before) := by
  unfold State.giveCombinerUpdate
  dsimp only
  split
  · exact offersTo_refl s
  · split
    · exact offersTo_refl s
    · exact offersTo_changeConsequent _ _ _ _ s

theorem offersTo_foldl {α : Type} (f : State → α → State) (hf : ∀ (s : State) (a : α), s.OffersTo (f s a)) (as : List α)
    (s : State) : s.OffersTo (as.foldl f s) := by
  induction as generalizing s with
  | nil => exact offersTo_refl s
  | cons a as ih => exact offersTo_trans (hf s a) (ih _)

/-- R6 to R9: a channel change reaches the links as offers. -/
theorem offersTo_change (c : ChannelId) (st : Validity) (v : Bool) (inc : Nat) (s : State) :
    s.OffersTo (s.change c st v inc) := by
  have written : s.OffersTo (s.writeChan c st v inc) := offersTo_of_links rfl
  have evaluated (t : State) : t.OffersTo (t.evaluateCombiners c) := offersTo_of_links rfl
  rw [change_eq]
  split
  · exact written
  · exact offersTo_trans (offersTo_trans written (offersTo_offer c inc _)) (offersTo_trans (evaluated _)
      (offersTo_foldl _ (fun t m => offersTo_giveCombinerUpdate m _ t) allCombiners _))

theorem offersTo_update (src : ChannelSource) (c : ChannelId) (st : Validity) (v : Bool) (inc : Nat) (s : State) :
    s.OffersTo (s.update src c st v inc) := by
  unfold State.update
  split
  · exact offersTo_change c st v inc s
  · exact offersTo_refl s

theorem offersTo_updateBound (src : ChannelSource) (st : Validity) (v : Bool) (inc : Bool → Nat) (s : State) :
    s.OffersTo (s.updateBound src st v inc) := by
  unfold State.updateBound
  split
  · exact offersTo_refl s
  · exact offersTo_update _ _ _ _ _ s

/-- R69: the updates of the channels that depend on a link. -/
theorem offersTo_tellChannels (k : LinkId) (up : Bool) (s : State) : s.OffersTo ((s.staleImports k).linkStatus k up) :=
  offersTo_trans (offersTo_foldl _ (fun t c => offersTo_update (.link k) c .stale (t.chan c).value 0 t) _ s)
    (offersTo_updateBound _ _ _ _ _)

/-- R67 to R69: link `k` has made its move out of UP, and what depends on it is told. -/
def State.toldDown (k : LinkId) (move : Link → Link) (s : State) : State :=
  ((s.modLink k fun l => move l.clearTransport).staleImports k).linkStatus k false

/-- R67: the move and the updates of the channels, then the remote requests and the slot. -/
theorem leaveUp_eq (k : LinkId) (move : Link → Link) (s : State) :
    s.leaveUp k move = ((s.toldDown k move).modRemote (RemoteTable.linkDown k)).modLink k Link.emptied := rfl

theorem offersTo_toldDown (k : LinkId) (move : Link → Link) (s : State) :
    (s.modLink k fun l => move l.clearTransport).OffersTo (s.toldDown k move) := offersTo_tellChannels k false _

/-- R67, R68: the link that leaves UP takes no offer on the way. -/
theorem leaveUp_linkAt_own (k : LinkId) {move : Link → Link} (down : LeavesUp move) (s : State) :
    (s.leaveUp k move).linkAt k = (move (s.linkAt k).clearTransport).emptied := by
  have offered := offersTo_toldDown k move s k
  rw [State.linkAt_modLink, if_pos rfl] at offered
  rw [leaveUp_eq, State.linkAt_modLink, if_pos rfl, State.modRemote_linkAt, eq_of_offered_down (down.state _) offered]

theorem leaveUp_linkAt_other {k j : LinkId} (other : j ≠ k) (move : Link → Link) (s : State) :
    (s.linkAt j).Offered ((s.leaveUp k move).linkAt j) := by
  have offered := offersTo_toldDown k move s j
  rw [State.linkAt_modLink, if_neg other] at offered
  rwa [leaveUp_eq, State.linkAt_modLink, if_neg other, State.modRemote_linkAt]

/-! ### The choices of the link arbiters -/

/-- A property of link records that survives every choice a link arbiter can make (R97). -/
structure KeptByChoices (P : Link → Prop) : Prop where
  hello : ∀ {l : Link} node, P l → P (l.sendHello node)
  ack : ∀ {l : Link}, P l → P l.sendAck
  resend : ∀ {l : Link} p, P l → P (l.resend p)
  emptySlot : ∀ {l : Link}, P l → P l.emptied
  dropChanges : ∀ {l : Link} n, P l → P { l with changes := l.changes.drop n }
  data : ∀ {l : Link} kind body, l.state = .up → l.queue.length < l.config.window.toNat → P l → P (l.sendData kind body)

theorem keeps_modLink {P : Link → Prop} {s : State} {k j : LinkId} {f : Link → Link} (h : P (s.linkAt j))
    (own : P (s.linkAt k) → P (f (s.linkAt k))) : P ((s.modLink k f).linkAt j) := by
  rw [State.linkAt_modLink]
  split
  · rename_i same
    exact own (same ▸ h)
  · exact h

namespace KeptByChoices
variable {P : Link → Prop} (w : KeptByChoices P) {s : State} {j : LinkId} (h : P (s.linkAt j))
include w h

theorem sendNewData {t : State} {k : LinkId} (up : (s.linkAt k).state = .up) (new : s.sendNewData? k = some t) : P (t.linkAt j) := by
  unfold State.sendNewData? at new
  dsimp only at new
  split at new
  · cases new
  have room := Nat.lt_of_not_le ‹_›
  split at new
  · cases new
    exact keeps_modLink h fun own => w.data (l := (s.linkAt k).emptied) _ _ up room (w.emptySlot own)
  split at new
  · cases new
    exact keeps_modLink (s := s.modRemote _) h fun own => w.data _ _ up room own
  split at new <;> cases new
  exact keeps_modLink h fun own =>
    w.data (l := { s.linkAt k with changes := (s.linkAt k).changes.drop _ }) _ _ up room (w.dropChanges _ own)

theorem linkArbiter (k : LinkId) : P ((s.linkArbiter k).linkAt j) := by
  unfold State.linkArbiter
  dsimp only
  split
  · exact h
  split
  · exact h
  · exact h
  · split
    · exact keeps_modLink h (w.hello _)
    · exact h
  · split
    · exact keeps_modLink h (w.hello _)
    split
    · exact keeps_modLink h (w.resend _)
    split
    · exact w.sendNewData h ‹_› ‹_›
    split
    · exact keeps_modLink h w.ack
    · exact h

theorem settle : P (s.settle.linkAt j) := by
  have links (ks : List LinkId) (t : State) (h : P (t.linkAt j)) : P ((ks.foldl (fun t k => t.linkArbiter k) t).linkAt j) := by
    induction ks generalizing t with
    | nil => exact h
    | cons k ks ih => exact ih _ (w.linkArbiter h k)
  obtain ⟨_, _, _, _, _, same, _, _⟩ := hostArbiter_sends s
  exact links allLinks s.hostArbiter (by rw [State.linkAt, same]; exact h)

end KeptByChoices

/-- The laws of a link engine survive every choice of its arbiter. -/
theorem linkLaw_keptByChoices : KeptByChoices Link.Law where
  hello node h := h.sendHello node
  ack h := h.sendAck
  resend p h := h.resend p
  emptySlot h := h.emptySlot
  dropChanges n h := h.dropChanges n
  data kind body up room h := h.sendData up room kind body

/-! ### What keeps the laws of all links -/

section
variable {s : State} (h : s.LinkLaw)
include h

theorem State.LinkLaw.of_offers {t : State} (offers : s.OffersTo t) : t.LinkLaw := fun k => law_of_offered (h k) (offers k)

theorem State.LinkLaw.of_links {t : State} (links : t.links = s.links) : t.LinkLaw := h.of_offers (offersTo_of_links links)

theorem State.LinkLaw.modLink {k : LinkId} {f : Link → Link} (own : (f (s.linkAt k)).Law) : (s.modLink k f).LinkLaw :=
  fun j => keeps_modLink (h j) fun _ => own

theorem linkLaw_raise (f : Flag) (d : Byte) : (s.raise f d).LinkLaw := by
  obtain ⟨_, _, _, _, only⟩ := raise_only f d s
  exact h.of_links (by rw [only])

theorem linkLaw_settle : s.settle.LinkLaw := fun j => linkLaw_keptByChoices.settle (h j)

theorem linkLaw_passTime : s.passTime.LinkLaw := fun k => by
  rw [passTime_linkAt]
  exact (h k).pass

theorem linkLaw_stray (k : LinkId) : (s.stray k).LinkLaw := linkLaw_raise (h.modLink ((h k).congr rfl rfl rfl)) _ _

/-! ### Sessions -/

/-- R67 to R70: the link that leaves UP takes no offer on the way, and its slot is emptied last. -/
theorem linkLaw_leaveUp (k : LinkId) {move : Link → Link} (down : LeavesUp move) (lawful : LawfulMove move) :
    (s.leaveUp k move).LinkLaw := by
  intro j
  by_cases own : j = k
  · rw [own, leaveUp_linkAt_own k down]
    exact (h k).left lawful
  · exact law_of_offered (h j) (leaveUp_linkAt_other own move s)

theorem linkLaw_enterFault (k : LinkId) (cause : FaultCause) : (s.enterFault k cause).LinkLaw := by
  unfold State.enterFault
  refine linkLaw_raise ?_ _ _
  split
  · exact linkLaw_leaveUp h k (leavesUp_toFault cause) (lawfulMove_toFault cause)
  · exact h.modLink ((h k).moved ‹_› (lawfulMove_toFault cause))

theorem linkLaw_enterUp {k : LinkId} (down : (s.linkAt k).state ≠ .up) : (s.enterUp k).LinkLaw := by
  have moved : (s.modLink k (Link.toUp (s.snapshot (s.linkAt k).exported))).LinkLaw := h.modLink ((h k).toUp down s)
  exact linkLaw_raise (moved.of_offers (offersTo_updateBound _ _ _ _ _)) _ _

/-- R61: a HELLO taken in SEEKING. -/
theorem linkLaw_helloInSeeking {k : LinkId} (down : (s.linkAt k).state ≠ .up) (hello : Hello) : (s.helloInSeeking k hello).LinkLaw := by
  have recorded : (s.modLink k (Link.recordPeer hello)).LinkLaw := h.modLink ((h k).congr rfl rfl rfl)
  unfold State.helloInSeeking
  dsimp only
  split
  · exact h
  split
  · exact linkLaw_enterFault recorded k _
  split
  · exact linkLaw_enterFault recorded k _
  split
  · exact linkLaw_enterUp recorded (by rwa [State.linkAt_modLink, if_pos rfl])
  · exact recorded

theorem linkLaw_helloInUp {k : LinkId} (up : (s.linkAt k).state = .up) (hello : Hello) : (s.helloInUp k hello).LinkLaw := by
  unfold State.helloInUp
  split
  · split
    · exact h
    · exact h.modLink ((h k).answerHello up)
  · split
    · exact h
    · have left := linkLaw_raise (linkLaw_leaveUp h k leavesUp_toSeeking lawfulMove_toSeeking) (.peerRestart k) 0
      refine linkLaw_helloInSeeking left ?_ hello
      rw [((sameTable_raise _ _ _).links k).1, leaveUp_linkAt_own k leavesUp_toSeeking]
      nofun

/-! ### Received frames -/

theorem linkLaw_takeRres (k : LinkId) (tag kind status : Byte) (data : List Byte) : (s.takeRres k tag kind status data).LinkLaw := by
  have answered (f : RemoteTable → RemoteTable) : (s.modRemote f).LinkLaw := h.of_links rfl
  unfold State.takeRres
  split
  · exact linkLaw_stray h k
  · split
    · exact answered _
    · exact linkLaw_stray h k
    · split
      · exact linkLaw_raise (answered _) _ _
      · exact linkLaw_stray h k
    · exact linkLaw_raise (answered _) _ _

theorem linkLaw_applyEntry (k : LinkId) (e : ChangeEntry) : (s.applyEntry k e).LinkLaw := by
  unfold State.applyEntry
  split
  · exact h.of_offers (offersTo_update _ _ _ _ _ s)
  · exact linkLaw_stray h k

theorem linkLaw_applyEntries (k : LinkId) (es : List ChangeEntry) : (es.foldl (State.applyEntry k) s).LinkLaw := by
  induction es generalizing s with
  | nil => exact h
  | cons e es ih => exact ih (linkLaw_applyEntry h k e)

section
variable {k : LinkId} (up : (s.linkAt k).state = .up)
include up

theorem linkLaw_takeRreq (tag kind : Byte) (body : List Byte) : (s.takeRreq k tag kind body).LinkLaw := by
  rw [takeRreq_eq]
  split
  · exact h.modLink ((h k).fillSlot up _)
  · exact linkLaw_stray h k

theorem linkLaw_handOn (kind : DataKind) (body : List Byte) : (s.handOn k kind body).LinkLaw := by
  unfold State.handOn
  split
  · exact linkLaw_applyEntries h k _
  · split
    · exact linkLaw_takeRreq h up _ _ _
    · exact h
  · split
    · exact linkLaw_takeRres h k _ _ _ _
    · exact h

/-- R88 to R90: a data frame makes an ack owed, and an accepted one is handed on. -/
theorem linkLaw_classify (kind : DataKind) (seq : Byte) (body : List Byte) : (s.classify k kind seq body).LinkLaw := by
  have accepted : ({ s.linkAt k with nextExpected := (s.linkAt k).nextExpected + 1 } : Link).oweAck.Law :=
    .oweAck ((h k).congr rfl rfl rfl) up
  have counted (c : LinkCounters) : ({ s.linkAt k with counters := c } : Link).oweAck.Law := .oweAck ((h k).congr rfl rfl rfl) up
  unfold State.classify
  dsimp only
  split
  · refine linkLaw_handOn (h.modLink accepted) ?_ kind body
    rw [State.linkAt_modLink, if_pos rfl]
    exact up
  · split <;> exact h.modLink (counted _)

theorem linkLaw_handleInUp (f : LinkFrame) : (s.handleInUp k f).LinkLaw := by
  unfold State.handleInUp
  split
  · split
    · exact linkLaw_helloInUp h up _
    · exact h
  · split
    · exact linkLaw_classify h up _ _ _
    · exact h

end

theorem linkLaw_handleInSeeking {k : LinkId} (down : (s.linkAt k).state ≠ .up) (f : LinkFrame) : (s.handleInSeeking k f).LinkLaw := by
  unfold State.handleInSeeking
  split
  · split
    · exact linkLaw_helloInSeeking h down _
    · exact h
  · exact h

theorem linkLaw_takeFrame (k : LinkId) (f : LinkFrame) (good : Bool) : (s.takeFrame k f good).LinkLaw := by
  have bad : (s.badFrame k).LinkLaw := linkLaw_raise (h.modLink ((h k).congr rfl rfl rfl)) _ _
  unfold State.takeFrame
  split
  · exact h
  · exact h
  · rename_i seeking
    split
    · refine linkLaw_handleInSeeking (h.modLink ((h k).congr rfl rfl rfl)) ?_ f
      rw [State.linkAt_modLink, if_pos rfl]
      exact fun up => LinkState.noConfusion (seeking.symm.trans up)
    · exact bad
  · rename_i up
    split
    · refine linkLaw_handleInUp (h.modLink (((h k).heard up _).takeAck f.ack)) ?_ f
      rw [State.linkAt_modLink, if_pos rfl, (sameSession_takeAck _ _).1]
      exact up
    · exact bad

theorem linkLaw_linkByte (k : LinkId) (b : Byte) : (s.linkByte k b).LinkLaw := by
  unfold State.linkByte
  dsimp only
  split
  · exact h.modLink ((h k).congr rfl rfl rfl)
  · exact linkLaw_takeFrame (h.modLink ((h k).congr rfl rfl rfl)) k _ _

/-! ### Timers -/

theorem linkLaw_silenceExpiry (k : LinkId) : (s.silenceExpiry k).LinkLaw :=
  linkLaw_raise (linkLaw_leaveUp h k leavesUp_toSeeking lawfulMove_toSeeking) _ _

/-- R93, R94: the retransmit timer that runs out has records to send again. -/
theorem linkLaw_retransmitExpiry {k : LinkId} (runs : (s.linkAt k).retransmitTimer.isSome) : (s.retransmitExpiry k).LinkLaw := by
  unfold State.retransmitExpiry
  dsimp only
  split
  · exact linkLaw_enterFault (h.modLink ((h k).congr rfl rfl rfl)) k _
  · have counted := h.modLink (k := k) (f := fun l =>
      { l with
        counters := { l.counters with timerExpiries := satAdd l.counters.timerExpiries 1 }
        retryCount := l.retryCount + 1 }) ((h k).congr rfl rfl rfl)
    refine counted.modLink ((counted k).goBack ?_ _)
    rw [State.linkAt_modLink, if_pos rfl]
    exact (h k).queue.timer.mp runs

end

end Sys2Proof.Machine
end

section
/-! PROOFS. Every request and every command keep the laws of the link engines: O55. -/

namespace Sys2Proof.Machine

/-! ### The rules of the requests -/

/-- A rule keeps the laws of the link engines where it carries its request out. -/
def RequestRule.KeepsLinkLaw (rule : RequestRule) : Prop :=
  ∀ body s t data, s.LinkLaw → rule body s = .ok (t, data) → t.LinkLaw

theorem linkFreeRules_keepLinkLaw {rule : RequestRule} (mem : rule ∈ linkFreeRules) : rule.KeepsLinkLaw := fun _ _ _ _ h ht =>
  h.of_links (linkFreeRules_leave mem ht).2

/-- R13, R15: a channel takes or leaves its source, and an update. -/
theorem offersTo_sourced (c : ChannelId) (x : Channel) (st : Validity) (v : Bool) (inc : Nat) (s : State) :
    s.OffersTo (State.change c st v inc (s.setChan c x)) := by
  have sourced : s.OffersTo (s.setChan c x) := offersTo_of_links rfl
  exact offersTo_trans sourced (offersTo_change c st v inc _)

theorem channelBindRule_keepsLinkLaw : RequestRule.KeepsLinkLaw channelBindRule := by
  intro body s t data h ht
  unfold channelBindRule at ht
  repeat' split at ht
  all_goals cases ht
  exact h.of_offers (offersTo_sourced _ _ _ _ _ s)

theorem channelUnbindRule_keepsLinkLaw : RequestRule.KeepsLinkLaw channelUnbindRule := by
  intro body s t data h ht
  unfold channelUnbindRule at ht
  repeat' split at ht
  all_goals cases ht
  unfold State.unbind
  split
  · exact h
  · exact h.of_offers (offersTo_sourced _ _ _ _ _ s)

theorem channelSetRule_keepsLinkLaw {effect : ChannelId → State → State} (offers : ∀ c (s : State), s.OffersTo (effect c s)) :
    RequestRule.KeepsLinkLaw (channelSetRule effect) := by
  intro body s t data h ht
  unfold channelSetRule at ht
  repeat' split at ht
  all_goals cases ht
  exact h.of_offers (offers _ s)

/-- A line takes a record and gives its channel a value. -/
theorem offersTo_lineUpdate (n : LineId) (x : Line) (v : Bool) (inc : Bool → Nat) (s : State) :
    s.OffersTo ((s.setLine n x).updateBound (.line n) .valid v inc) := by
  have written : s.OffersTo (s.setLine n x) := offersTo_of_links rfl
  exact offersTo_trans written (offersTo_updateBound _ _ _ _ _)

theorem offersTo_acceptEdge (n : LineId) (s : State) : s.OffersTo (s.acceptEdge n) := by
  rw [acceptEdge_eq]
  exact offersTo_lineUpdate _ _ _ _ s

theorem offersTo_sampleLine (n : LineId) (level : Bool) (s : State) : s.OffersTo (s.sampleLine n level) := by
  have sampled (x : Line) : s.OffersTo (s.setLine n x) := offersTo_of_links rfl
  unfold State.sampleLine
  dsimp only
  split
  · exact offersTo_trans (sampled _) (offersTo_acceptEdge n _)
  · exact sampled _

theorem lineConfigRule_keepsLinkLaw : RequestRule.KeepsLinkLaw lineConfigRule := by
  intro body s t data h ht
  unfold lineConfigRule at ht
  repeat' split at ht
  all_goals cases ht
  unfold State.configureLine
  dsimp only
  split
  · exact h.of_offers (offersTo_lineUpdate _ _ _ _ s)
  · exact h.of_links rfl

theorem combinerConfigRule_keepsLinkLaw : RequestRule.KeepsLinkLaw combinerConfigRule := by
  intro body s t data h ht
  unfold combinerConfigRule at ht
  dsimp only at ht
  repeat' split at ht
  all_goals cases ht
  have written (m : CombinerId) (cb : Combiner) : (s.setComb m cb).LinkLaw := h.of_links rfl
  exact (written _ _).of_offers (offersTo_giveCombinerUpdate _ _ _)

theorem linkControlRule_keepsLinkLaw {act : LinkId → State → Except Status State}
    (keeps : ∀ k s t, s.LinkLaw → act k s = .ok t → t.LinkLaw) : RequestRule.KeepsLinkLaw (linkControlRule act) := by
  intro body s t data h ht
  unfold linkControlRule at ht
  split at ht
  · split at ht
    · generalize acted : act _ _ = verdict at ht
      cases verdict with
      | error e => cases ht
      | ok u => cases ht; exact keeps _ _ _ h acted
    · cases ht
  · cases ht

/-- R74: an enabled link was OFF. -/
theorem enableLink_keepsLinkLaw (k : LinkId) (s t : State) (h : s.LinkLaw) (ht : enableLink k s = .ok t) : t.LinkLaw := by
  unfold enableLink at ht
  split at ht
  · cases ht
  · rename_i off
    split at ht <;> cases ht
    exact h.modLink ((h k).moved (by rw [not_not.mp off]; nofun) lawfulMove_toSeeking)

theorem disableLink_keepsLinkLaw (k : LinkId) (s t : State) (h : s.LinkLaw) (ht : disableLink k s = .ok t) : t.LinkLaw := by
  unfold disableLink at ht
  split at ht <;> obtain rfl := Except.ok.inj ht
  · exact h
  · exact linkLaw_leaveUp h k leavesUp_toOff lawfulMove_toOff
  · exact h.modLink ((h k).moved ‹_› lawfulMove_toOff)

theorem restartLink_keepsLinkLaw (k : LinkId) (s t : State) (h : s.LinkLaw) (ht : restartLink k s = .ok t) : t.LinkLaw := by
  unfold restartLink at ht
  split at ht
  · cases ht
  all_goals obtain rfl := Except.ok.inj ht
  · exact linkLaw_leaveUp h k leavesUp_toSeeking lawfulMove_toSeeking
  · exact h.modLink ((h k).moved ‹_› lawfulMove_toSeeking)

/-- R77: LINK_CONFIG is refused in SEEKING and UP, and names a window of at most 8. -/
theorem linkConfigRule_keepsLinkLaw : RequestRule.KeepsLinkLaw linkConfigRule := by
  intro body s t data h ht
  unfold linkConfigRule at ht
  repeat' split at ht
  all_goals cases ht
  rename_i named stopped
  exact h.modLink ((h _).configured (fun up => stopped (.inr up)) (window_of_linkConfigOf named))

theorem linkPolicyRule_keepsLinkLaw : RequestRule.KeepsLinkLaw linkPolicyRule := by
  intro body s t data h ht
  unfold linkPolicyRule at ht
  repeat' split at ht
  all_goals cases ht
  exact h.modLink ((h _).congr rfl rfl rfl)

theorem linkStatsRule_keepsLinkLaw : RequestRule.KeepsLinkLaw linkStatsRule := by
  intro body s t data h ht
  unfold linkStatsRule at ht
  repeat' split at ht
  all_goals cases ht
  · exact h.modLink ((h _).congr rfl rfl rfl)
  · exact h

theorem linkExportRule_keepsLinkLaw : RequestRule.KeepsLinkLaw linkExportRule := by
  intro body s t data h ht
  unfold linkExportRule at ht
  dsimp only at ht
  repeat' split at ht
  all_goals cases ht
  exact h.modLink ((h _).exporting _ s)

theorem remoteSendRule_keepsLinkLaw : RequestRule.KeepsLinkLaw remoteSendRule := by
  intro body s t data h ht
  unfold remoteSendRule at ht
  repeat' split at ht
  all_goals cases ht
  exact h.of_links rfl

/-! ### Events, requests, steps -/

section
variable {s t : State} (h : s.LinkLaw)
include h

theorem event_keepsLinkLaw {occurs : Bool} {effect : State → State} (keeps : occurs = true → (effect s).LinkLaw)
    (ht : event occurs effect s = .next t) : t.LinkLaw := by
  rcases event_cases occurs effect s with idle | ⟨-, on, taken⟩
  · rw [idle] at ht
    cases ht
    exact h
  · rw [taken] at ht
    cases ht
    exact linkLaw_settle (keeps on)

/-- An expiry is taken from a timer that runs. -/
theorem expiry_keepsLinkLaw {timer : Timer} {effect : State → State} (keeps : timer.isSome = true → (effect s).LinkLaw)
    (ht : expiry timer effect s = .next t) : t.LinkLaw :=
  event_keepsLinkLaw h (fun on => keeps (Option.isSome_of_eq_some ((ranOut_iff timer).mp on))) ht

theorem linkLaw_answer (g : Grant) (status : Status) (data : List Byte) : (s.answer g status data).LinkLaw := by
  unfold State.answer
  split
  · exact h.of_links rfl
  · exact h.modLink ((h _).replySlot _ _)

theorem request_keepsLinkLaw {serves : HostFrame → Bool} {rule : RequestRule} (keeps : rule.KeepsLinkLaw)
    (ht : request serves rule s = .next t) : t.LinkLaw := by
  rcases request_cases serves rule s with idle | ⟨g, -, -, -, granted⟩
  · rw [idle] at ht
    cases ht
    exact h
  · rw [granted] at ht
    cases ht
    have taken : (s.takeGrant g).LinkLaw := h.of_links (takeGrant_records g s).2.2.2
    apply linkLaw_settle
    rcases execute_cases g rule s with ⟨u, data, judged, acted⟩ | ⟨status, -, refused⟩
    · rw [acted]
      apply linkLaw_answer
      rcases judge_cases g rule (s.takeGrant g) with e | e | e | ⟨-, -, -, e⟩ <;> rw [e] at judged
      · cases judged
      · cases judged
      · cases judged
      · exact keeps _ _ _ _ taken judged
    · rw [refused]
      exact linkLaw_answer taken _ _ _

/-- A request row whose rule writes no link. -/
theorem request_sparesLinkLaw {serves : HostFrame → Bool} {rule : RequestRule} (ht : request serves rule s = .next t)
    (mem : rule ∈ linkFreeRules := by simp [linkFreeRules]) : t.LinkLaw :=
  request_keepsLinkLaw h (linkFreeRules_keepLinkLaw mem) ht

theorem linkLaw_hostTxEnd : s.hostTxEnd.LinkLaw := by
  unfold State.hostTxEnd
  dsimp only
  split
  · exact linkLaw_resetWith _ _ _ _
  · exact h.of_links rfl

theorem linkLaw_entryTimeout (tag : Byte) : (s.entryTimeout tag).LinkLaw := by
  have written (f : RemoteTable → RemoteTable) : (s.modRemote f).LinkLaw := h.of_links rfl
  unfold State.entryTimeout
  split
  · exact h
  · exact linkLaw_raise (written _) _ _

/-- Every command keeps the laws of the link engines. -/
theorem exec_keepsLinkLaw (i : Instr) (ht : exec i s = .next t) : t.LinkLaw := by
  have hostByte (b : Byte) : (s.hostByte b).LinkLaw := by
    obtain ⟨_, _, _, _, _, only⟩ := hostByte_only b s
    exact h.of_links (by rw [only])
  have framingError : s.framingError.LinkLaw := by
    obtain ⟨_, _, _, _, _, only⟩ := framingError_only s
    exact h.of_links (by rw [only])
  cases i with
  | powerResetEntry => cases ht; exact linkLaw_resetWith _ _ _ _
  | powerResetExit rate1 rate0 => cases ht; exact linkLaw_settle (linkLaw_resetWith _ _ _ _)
  | lineSample n level => exact event_keepsLinkLaw h (fun _ => h.of_offers (offersTo_sampleLine n level s)) ht
  | debounceExpiry n => exact expiry_keepsLinkLaw h (fun _ => h.of_offers (offersTo_acceptEdge n s)) ht
  | hostFrameReceived b => exact event_keepsLinkLaw h (fun _ => hostByte b) ht
  | hostBadLength b => exact event_keepsLinkLaw h (fun _ => hostByte b) ht
  | hostByteReceived b => exact event_keepsLinkLaw h (fun _ => hostByte b) ht
  | hostGapTimerExpiry => exact expiry_keepsLinkLaw h (fun _ => framingError) ht
  | hostCharacterError => exact event_keepsLinkLaw h (fun _ => framingError) ht
  | hostTxEnd => exact event_keepsLinkLaw h (fun _ => linkLaw_hostTxEnd h) ht
  | unknownKindRequest =>
    exact request_keepsLinkLaw (serves := fun r => !isRequestKind r.kind) (rule := unknownKindRule) h (fun _ _ _ _ _ ht => nomatch ht) ht
  | identify => exact request_sparesLinkLaw h ht
  | status => exact request_sparesLinkLaw h ht
  | reset => exact request_sparesLinkLaw h ht
  | setNode => exact request_sparesLinkLaw h ht
  | channelBind => exact request_keepsLinkLaw h channelBindRule_keepsLinkLaw ht
  | channelUnbind => exact request_keepsLinkLaw h channelUnbindRule_keepsLinkLaw ht
  | channelSetDrive0 => exact request_keepsLinkLaw h (channelSetRule_keepsLinkLaw fun _ _ => offersTo_update _ _ _ _ _ _) ht
  | channelSetDrive1 => exact request_keepsLinkLaw h (channelSetRule_keepsLinkLaw fun _ _ => offersTo_update _ _ _ _ _ _) ht
  | channelSetPulse => exact request_keepsLinkLaw h (channelSetRule_keepsLinkLaw fun _ _ => offersTo_update _ _ _ _ _ _) ht
  | channelSetWithdraw => exact request_keepsLinkLaw h (channelSetRule_keepsLinkLaw fun _ _ => offersTo_update _ _ _ _ _ _) ht
  | channelWatch => exact request_sparesLinkLaw h ht
  | channelRead => exact request_sparesLinkLaw h ht
  | lineConfig => exact request_keepsLinkLaw h lineConfigRule_keepsLinkLaw ht
  | lineSet => exact request_sparesLinkLaw h ht
  | lineRead => exact request_sparesLinkLaw h ht
  | combinerConfig => exact request_keepsLinkLaw h combinerConfigRule_keepsLinkLaw ht
  | combinerRead => exact request_sparesLinkLaw h ht
  | linkControlEnable => exact request_keepsLinkLaw h (linkControlRule_keepsLinkLaw enableLink_keepsLinkLaw) ht
  | linkControlDisable => exact request_keepsLinkLaw h (linkControlRule_keepsLinkLaw disableLink_keepsLinkLaw) ht
  | linkControlRestart => exact request_keepsLinkLaw h (linkControlRule_keepsLinkLaw restartLink_keepsLinkLaw) ht
  | linkConfig => exact request_keepsLinkLaw h linkConfigRule_keepsLinkLaw ht
  | linkPolicy => exact request_keepsLinkLaw h linkPolicyRule_keepsLinkLaw ht
  | linkStatus => exact request_sparesLinkLaw h ht
  | linkExport => exact request_keepsLinkLaw h linkExportRule_keepsLinkLaw ht
  | linkStats => exact request_keepsLinkLaw h linkStatsRule_keepsLinkLaw ht
  | remoteSend => exact request_keepsLinkLaw h remoteSendRule_keepsLinkLaw ht
  | eventsRead => exact request_sparesLinkLaw h ht
  | eventsClear => exact request_sparesLinkLaw h ht
  | noticeConfig => exact request_sparesLinkLaw h ht
  | alertConfig => exact request_sparesLinkLaw h ht
  | hostStats => exact request_sparesLinkLaw h ht
  | linkFrameReceived k b => exact event_keepsLinkLaw h (fun _ => linkLaw_linkByte h k b) ht
  | linkByteReceived k b => exact event_keepsLinkLaw h (fun _ => linkLaw_linkByte h k b) ht
  | linkFramerGapExpiry k => exact expiry_keepsLinkLaw h (fun _ => h.modLink ((h k).congr rfl rfl rfl)) ht
  | helloTimerExpiry k => exact expiry_keepsLinkLaw h (fun runs => h.modLink ((h k).helloExpiry runs)) ht
  | keepaliveTimerExpiry k => exact expiry_keepsLinkLaw h (fun runs => h.modLink ((h k).keepaliveExpiry runs)) ht
  | silenceTimerExpiry k => exact expiry_keepsLinkLaw h (fun _ => linkLaw_silenceExpiry h k) ht
  | holdOffExpiry k => exact expiry_keepsLinkLaw h (fun runs => h.modLink ((h k).holdOffExpiry runs)) ht
  | retransmitTimerExpiry k => exact expiry_keepsLinkLaw h (fun runs => linkLaw_retransmitExpiry h runs) ht
  | ackTimerExpiry k => exact expiry_keepsLinkLaw h (fun runs => h.modLink ((h k).ackExpiry runs)) ht
  | linkTxEnd k => exact event_keepsLinkLaw h (fun _ => h.modLink ((h k).congr rfl rfl rfl)) ht
  | remoteEntryTimeout tag => exact expiry_keepsLinkLaw h (fun _ => linkLaw_entryTimeout h tag) ht

theorem linkLaw_idle : s.idle.LinkLaw := by
  unfold State.idle
  split
  · exact h
  · exact linkLaw_passTime (linkLaw_settle h)

end

/-- Settles O55: each operation on a link record keeps the laws of the record, a channel change reaches the links as offers
(`State.OffersTo`), and each command is made of these. -/
theorem everyStepKeepsLinkLaw : Obligations.EveryStepKeepsLinkLaw := by
  intro s t h ht
  cases waiting : s.pending with
  | nil =>
    rw [step_idle waiting] at ht
    cases ht
    exact linkLaw_idle h
  | cons c rest =>
    rw [step_front waiting] at ht
    exact exec_keepsLinkLaw (s := { s with pending := rest }) (h.of_links rfl) c ht

end Sys2Proof.Machine
end

section
/-! PROOFS. The frames that begin and the frames that are received, by the state of the link: O43, O39. -/

namespace Sys2Proof.Machine

/-! ### Frames that begin -/

section
variable {l : Link}

/-- R98: in UP a beginning frame carries the next expected number, pays the owed ack and starts the keepalive timer again. -/
theorem begin_up (up : l.state = .up) (kind seq : Byte) (body : List Byte) :
    l.begin kind seq body =
      { l with
        line := some (LinkFrame.bytes ⟨kind, seq, l.nextExpected, body⟩), ackOwed := false, ackDue := false, ackTimer := none,
        keepaliveTimer := some (10 * l.config.keepalive.toNat), keepaliveDue := false } := by
  have ack : l.ackField = l.nextExpected := if_pos up
  rw [Link.begin, ack]
  exact if_pos up

/-- R82, R98: outside UP a beginning frame has ack field 0 and touches the line alone. -/
theorem begin_down (down : l.state ≠ .up) (kind seq : Byte) (body : List Byte) :
    l.begin kind seq body = { l with line := some (LinkFrame.bytes ⟨kind, seq, 0, body⟩) } := by
  have ack : l.ackField = 0 := if_neg down
  rw [Link.begin, ack]
  exact if_neg down

theorem helloBody_up (up : l.state = .up) (node : Byte) :
    l.helloBody node = [1, node, l.session, 2, l.peerSession, l.config.window] := if_pos up

theorem helloBody_down (down : l.state ≠ .up) (node : Byte) :
    l.helloBody node =
      [1, node, l.session, if l.seen then 1 else 0, if l.seen then l.peerSession else 0, l.config.window] := if_neg down

/-- R91: the record joins the tail of the queue; in an empty one it starts the retransmit timer and the retry count. -/
theorem appendRecord_eq (kind : DataKind) (body : List Byte) (l : Link) :
    l.appendRecord kind body =
      { l with
        queue := l.queue ++ [⟨l.nextSend, kind, body⟩]
        nextSend := l.nextSend + 1
        retryCount := if l.queue = [] then 0 else l.retryCount
        retransmitTimer := if l.queue = [] then some (10 * l.config.retransmit.toNat) else l.retransmitTimer } := by
  unfold Link.appendRecord
  cases queue : l.queue with
  | nil => rfl
  | cons r rest => simp

theorem dataKind_code (kind : DataKind) : kind.code = match kind with | .change => 3 | .rreq => 4 | .rres => 5 := by
  cases kind <;> rfl

theorem resend_found {p : Byte} {r : FrameRecord} (found : (l.queue.find? fun r => r.seq == p) = some r) :
    l.resend p = (Link.begin r.kind.code r.seq r.body { l with resendPoint := l.afterResend p }).countResent := by
  simp only [Link.resend, found]

end

/-- Settles O43: what each kind of frame sets before it begins, with `begin_up` and `begin_down` for the rest. -/
theorem beginningFrames : Obligations.BeginningFrames := by
  refine ⟨fun l up => ⟨fun node => ?_, ?_, fun kind body => ?_, rfl, fun p r found => ?_⟩, fun l node seeking => ?_⟩
  · rw [Link.sendHello, helloBody_up up, begin_up (l := { l with helloOwed := false }) up]
    rfl
  · rw [Link.sendAck, begin_up up]
    rfl
  · have appended : (l.appendRecord kind body).state = .up := by
      rw [appendRecord_eq]
      exact up
    rw [Link.sendData, begin_up appended, dataKind_code, appendRecord_eq]
    rfl
  · rw [resend_found found, begin_up (l := { l with resendPoint := l.afterResend p }) up, dataKind_code]
    rfl
  · have down : l.state ≠ .up := by rw [seeking]; nofun
    rw [Link.sendHello, helloBody_down down, begin_down (l := { l with helloOwed := false }) down]
    rfl

/-! ### Frames that are received -/

section
variable {s : State} {k : LinkId} {f : LinkFrame} {good : Bool}

/-- R84: a frame received in OFF or FAULT is discarded unexamined. -/
theorem takeFrame_stopped (stopped : (s.linkAt k).state = .off ∨ (s.linkAt k).state = .fault) : s.takeFrame k f good = s := by
  unfold State.takeFrame
  rcases stopped with off | fault
  · simp only [off]
  · simp only [fault]

/-- R85: in SEEKING and UP a frame that fails the check is counted and raises LINK_CRC_k. -/
theorem takeFrame_bad (awake : (s.linkAt k).state = .seeking ∨ (s.linkAt k).state = .up) : s.takeFrame k f false = s.badFrame k := by
  unfold State.takeFrame
  rcases awake with seeking | up
  · simp only [seeking]
    rfl
  · simp only [up]
    rfl

theorem takeFrame_seeking (seeking : (s.linkAt k).state = .seeking) :
    s.takeFrame k f true = (s.modLink k Link.countGood).handleInSeeking k f := by
  simp only [State.takeFrame, seeking, if_true]

/-- R84, R86: in UP a good frame starts the silence timer again, and its ack field is taken before it is handled. -/
theorem takeFrame_up (up : (s.linkAt k).state = .up) :
    s.takeFrame k f true =
      (s.modLink k fun l =>
        Link.takeAck f.ack { l.countGood with silenceTimer := some (ofTenMs l.config.silence) }).handleInUp k f := by
  simp only [State.takeFrame, up, if_true]

theorem handleInSeeking_other (other : f.kind ≠ 1) : s.handleInSeeking k f = s := if_neg other

theorem handleInSeeking_hello (hello : f.kind = 1) {h : Hello} (body : helloOf f.body = some h) :
    s.handleInSeeking k f = s.helloInSeeking k h := by
  rw [State.handleInSeeking, body]
  exact if_pos hello

theorem handleInUp_hello (hello : f.kind = 1) {h : Hello} (body : helloOf f.body = some h) :
    s.handleInUp k f = s.helloInUp k h := by
  rw [State.handleInUp, body]
  exact if_pos hello

theorem handleInUp_ack (ack : f.kind = 2) : s.handleInUp k f = s := by
  rw [State.handleInUp, ack]
  rfl

theorem handleInUp_data {kind : DataKind} (data : f.kind = kind.code) : s.handleInUp k f = s.classify k kind f.seq f.body := by
  rw [State.handleInUp, data]
  cases kind <;> rfl

end

/-- Settles O39: by the state of the link, then by the check, then by the kind of the frame. -/
theorem receivedFrameBySessionState : Obligations.ReceivedFrameBySessionState := by
  intro s k f good l counted
  refine ⟨takeFrame_stopped, ?_, ?_, ?_, ?_⟩
  · rintro awake rfl
    exact takeFrame_bad awake
  · rintro seeking rfl other
    exact (takeFrame_seeking seeking).trans (handleInSeeking_other other)
  · rintro seeking rfl hello v n ss sn ec w body
    exact (takeFrame_seeking seeking).trans (handleInSeeking_hello hello (by rw [body]; rfl))
  · rintro up rfl
    refine ⟨fun ack => ?_, fun hello v n ss sn ec w body => ?_, fun change => ?_, fun rreq => ?_, fun rres => ?_⟩
    · exact (takeFrame_up up).trans (handleInUp_ack ack)
    · exact (takeFrame_up up).trans (handleInUp_hello hello (by rw [body]; rfl))
    · exact (takeFrame_up up).trans (handleInUp_data (kind := .change) change)
    · exact (takeFrame_up up).trans (handleInUp_data (kind := .rreq) rreq)
    · exact (takeFrame_up up).trans (handleInUp_data (kind := .rres) rres)

end Sys2Proof.Machine
end

section
/-! PROOFS. The statements about sessions: what LINK_CONTROL, leaving UP, a HELLO and the timers of a link do: O32, O33, O34, O36. -/

namespace Sys2Proof.Machine

/-! ### LINK_CONTROL -/

theorem controlActionOf_eq_none {b : Byte} : controlActionOf b = none ↔ b = 0 ∨ 3 < b.toNat := by
  have zero : b = 0 ↔ b.toNat = 0 := eq_ofNat_iff b 0 (by decide)
  rw [zero]
  unfold controlActionOf
  split <;> simp_all
  omega

/-- The three rows of LINK_CONTROL are one rule with three actions. -/
theorem linkControl_rows {row : Instr} (h : row ∈ [Instr.linkControlEnable, .linkControlDisable, .linkControlRestart]) :
    ∃ act action, ∀ s, exec row s = request (ofControlAction action) (linkControlRule act) s := by
  simp only [List.mem_cons, List.not_mem_nil, or_false] at h
  rcases h with rfl | rfl | rfl
  · exact ⟨enableLink, .enable, fun _ => rfl⟩
  · exact ⟨disableLink, .disable, fun _ => rfl⟩
  · exact ⟨restartLink, .restart, fun _ => rfl⟩

section
variable {s : State} {g : Grant} {kb a : Byte}

theorem ofControlAction_of_grants (h : s.Grants g 0x0F [kb, a]) {action : ControlAction}
    (named : controlActionOf a = some action ∨ controlActionOf a = none) : ofControlAction action g.req = true := by
  rcases named with named | unnamed
  · simp [ofControlAction, h.kind, h.body, named]
  · simp [ofControlAction, h.kind, h.body, unnamed]

/-- R73: a LINK_CONTROL that names a link and an action is decided by the checks of the action. -/
theorem linkControl_named (h : s.Grants g 0x0F [kb, a]) {action : ControlAction} (named : controlActionOf a = some action)
    (act : LinkId → State → Except Status State) :
    request (ofControlAction action) (linkControlRule act) s = .next (
      match linkOf kb with
      | none => s.refusal g .badArgument
      | some k => s.conclude g ((act k (s.takeGrant g)).map fun t => (t, []))) := by
  rw [request_of_grants h (ofControlAction_of_grants h (.inl named)) rfl rfl, linkControlRule, named]
  cases linkOf kb <;> rfl

/-- R73, log 3: a LINK_CONTROL that names no action is refused in every row. -/
theorem linkControl_unnamed (h : s.Grants g 0x0F [kb, a]) (unnamed : controlActionOf a = none) (action : ControlAction)
    (act : LinkId → State → Except Status State) :
    request (ofControlAction action) (linkControlRule act) s = .next (s.refusal g .badArgument) := by
  rw [request_of_grants h (ofControlAction_of_grants h (.inr unnamed)) rfl rfl, linkControlRule, unnamed]
  cases linkOf kb <;> rfl

end

@[simp] theorem takeGrant_node (g : Grant) (s : State) : (s.takeGrant g).node = s.node := by
  obtain ⟨_, only⟩ := takeGrant_only g s
  rw [only]

/-- R75: DISABLE by the state of the link. -/
theorem disableLink_eq (k : LinkId) (s : State) :
    disableLink k s = .ok (
      if (s.linkAt k).state = .off then s
      else if (s.linkAt k).state = .up then s.leaveUp k Link.toOff
      else s.modLink k Link.toOff) := by
  unfold disableLink
  cases (s.linkAt k).state <;> rfl

/-- R76: RESTART by the state of the link. -/
theorem restartLink_eq (k : LinkId) (s : State) :
    restartLink k s =
      if (s.linkAt k).state = .off then .error .wrongState
      else .ok (if (s.linkAt k).state = .up then s.leaveUp k Link.toSeeking else s.modLink k Link.toSeeking) := by
  unfold restartLink
  cases (s.linkAt k).state <;> rfl

/-- Settles O32: action by action, and the three moves field by field. -/
theorem linkControlMovesTheSession : Obligations.LinkControlMovesTheSession := by
  refine ⟨fun s g kb => ⟨fun h => ?_, fun h => ?_, fun h => ?_, fun a row h unnamed mem => ?_⟩, fun l cause => ⟨rfl, rfl, rfl⟩⟩
  · rw [exec, execLinkControlEnable, linkControl_named h rfl]
    congr 1
    cases linkOf kb with
    | none => rfl
    | some k =>
      simp only [enableLink, takeGrant_linkAt, takeGrant_node]
      by_cases on : (s.linkAt k).state ≠ .off
      · rw [if_pos on, if_pos on]
        rfl
      · rw [if_neg on, if_neg on]
        by_cases nameless : s.node = 0
        · rw [if_pos nameless, if_pos nameless]
          rfl
        · rw [if_neg nameless, if_neg nameless]
          rfl
  · rw [exec, execLinkControlDisable, linkControl_named h rfl]
    simp only [disableLink_eq, takeGrant_linkAt]
    rfl
  · rw [exec, execLinkControlRestart, linkControl_named h rfl]
    congr 1
    cases linkOf kb with
    | none => rfl
    | some k =>
      simp only [restartLink_eq, takeGrant_linkAt]
      by_cases off : (s.linkAt k).state = .off
      · rw [if_pos off, if_pos off]
        rfl
      · rw [if_neg off, if_neg off]
        rfl
  · obtain ⟨act, action, run⟩ := linkControl_rows mem
    rw [run s, linkControl_unnamed h (controlActionOf_eq_none.mpr unnamed)]

/-! ### Leaving UP -/

theorem updateBound_carries (src : ChannelSource) (st : Validity) (v : Bool) (inc : Bool → Nat) (s : State) :
    s.Carries (s.updateBound src st v inc) := by
  unfold State.updateBound
  split
  · exact carries_refl s
  · exact update_carries _ _ _ _ _ s

theorem tellChannels_carries (k : LinkId) (up : Bool) (s : State) : s.Carries ((s.staleImports k).linkStatus k up) :=
  carries_trans (staleImports_carries k s) (updateBound_carries _ _ _ _ _)

theorem toldDown_carries (k : LinkId) (move : Link → Link) (s : State) :
    (s.modLink k fun l => move l.clearTransport).Carries (s.toldDown k move) := tellChannels_carries k false _

/-- R69 step 1: an import that becomes STALE keeps its value and its edges. -/
theorem updated_stale (ch : Channel) : ch.updated .stale ch.value 0 = { ch with state := .stale } := by
  simp [Channel.updated]

section
variable {s : State} (sources : s.oneChannelPerSource) {c : ChannelId}
include sources

theorem staleImport_chan (other : ∀ m, (s.chan c).source ≠ .combiner m) (k : LinkId) (d : ChannelId) :
    (s.staleImport k d).chan c =
      if c = d ∧ (s.chan c).source = .link k then { s.chan c with state := .stale } else s.chan c := by
  rw [State.staleImport, State.update]
  by_cases imported : (s.chan d).source = .link k
  · rw [if_pos imported, change_chan_other sources c other, writeChan_chan_updated, updated_stale]
    by_cases own : c = d
    · rw [if_pos own, own, if_pos ⟨rfl, imported⟩]
    · rw [if_neg own, if_neg]
      exact fun both => own both.1
  · rw [if_neg imported, if_neg]
    rintro ⟨rfl, own⟩
    exact imported own

/-- R69 step 1: of the channels that no combiner sources, the imports of link `k` become STALE, and no other changes. -/
theorem staleImports_chan (other : ∀ m, (s.chan c).source ≠ .combiner m) (k : LinkId) :
    (s.staleImports k).chan c = if (s.chan c).source = .link k then { s.chan c with state := .stale } else s.chan c := by
  have run (cs : List ChannelId) : (cs.foldl (State.staleImport k) s).chan c =
      if c ∈ cs ∧ (s.chan c).source = .link k then { s.chan c with state := .stale } else s.chan c := by
    induction cs generalizing s with
    | nil => simp
    | cons d cs ih =>
      have carries : s.Carries (s.staleImport k d) := update_carries _ _ _ _ _ s
      have source := (carries.channel c).1
      rw [List.foldl_cons, ih (oneChannelPerSource_of_carries carries sources) (by rwa [source]), source,
        staleImport_chan sources other]
      rcases eq_or_ne c d with rfl | head
      · by_cases own : (s.chan c).source = .link k <;> simp [own]
      · simp [head]
  exact (run allChannels).trans (by simp only [mem_allChannels, true_and])

/-- R69 step 2: of the channels that no combiner sources, the link-status channel of link `k` is told, and no other changes. -/
theorem linkStatus_chan (other : ∀ m, (s.chan c).source ≠ .combiner m) (k : LinkId) (up : Bool) :
    (s.linkStatus k up).chan c =
      if (s.chan c).source = .linkStat k then (s.chan c).updated .valid up (edgeIf up (s.chan c).value) else s.chan c := by
  unfold State.linkStatus
  by_cases bound : ∃ d, (s.chan d).source = .linkStat k
  · obtain ⟨d, hd⟩ := bound
    rw [updateBound_bound sources rfl hd, change_chan_other sources c other, writeChan_chan_updated]
    by_cases own : c = d
    · rw [if_pos own, own, if_pos hd]
    · rw [if_neg own, if_neg fun hc => own (sources c d (by rw [hc]; rfl) (hc.trans hd.symm))]
  · rw [not_exists] at bound
    rw [updateBound_unbound bound, if_neg (bound c)]

end

section
variable {s : State} (sources : s.oneChannelPerSource) (k : LinkId) (move : Link → Link) {c : ChannelId}
include sources

/-- R69: what leaving UP makes of a channel that no combiner sources. -/
theorem leaveUp_chan (other : (s.chan c).source.isCombiner = false) :
    (s.leaveUp k move).chan c =
      if (s.chan c).source = .link k then { s.chan c with state := .stale }
      else if (s.chan c).source = .linkStat k then
        { s.chan c with
          state := .valid, value := false, edges := (s.chan c).edges + (if (s.chan c).value = true then 1 else 0) }
      else s.chan c := by
  have other : ∀ m, (s.chan c).source ≠ .combiner m := fun m src => by rw [src] at other; cases other
  have moved : (s.modLink k fun l => move l.clearTransport).oneChannelPerSource := sources
  have carries := staleImports_carries k (s.modLink k fun l => move l.clearTransport)
  have source := (carries.channel c).1
  have staled := staleImports_chan moved other k
  rw [State.modLink_chan] at source staled
  rw [leaveUp_eq, State.modLink_chan, State.modRemote_chan, State.toldDown,
    linkStatus_chan (oneChannelPerSource_of_carries carries moved) (by rwa [source]), source, staled]
  by_cases imported : (s.chan c).source = .link k
  · rw [if_pos imported, if_pos imported, if_neg (by rw [imported]; nofun)]
  · rw [if_neg imported, if_neg imported]
    refine if_congr Iff.rfl ?_ rfl
    cases value : (s.chan c).value <;> simp [Channel.updated, edgeIf]

end

/-- R67: a link that is not the one that leaves UP keeps all but its pending change list. -/
theorem leaveUp_linkAt_changes {k j : LinkId} (other : j ≠ k) (move : Link → Link) (s : State) :
    (s.leaveUp k move).linkAt j = { s.linkAt j with changes := ((s.leaveUp k move).linkAt j).changes } := by
  have told : (s.leaveUp k move).linkAt j = (s.toldDown k move).linkAt j := by
    rw [leaveUp_eq, State.linkAt_modLink, if_neg other, State.modRemote_linkAt]
  have carried := (toldDown_carries k move s).link j
  rw [State.linkAt_modLink, if_neg other] at carried
  rw [told]
  exact carried

theorem leaveUp_remote (k : LinkId) (move : Link → Link) (s : State) :
    (s.leaveUp k move).remote = RemoteTable.linkDown k s.remote := by
  have spared := (sparesRequests_of_carries (toldDown_carries k move s)).remote
  rw [leaveUp_eq, State.modLink_remote, State.modRemote_remote, spared]
  rfl

/-- R68: a move that stops the session's timers, with the transport cleared, field by field. -/
def Link.leaving (move : Link → Link) (l : Link) : Link :=
  { move l with
    queue := [], retransmitTimer := none, retryCount := 0, resendPoint := none, changes := [], ackOwed := false,
    ackDue := false, ackTimer := none }

theorem move_clearTransport {move : Link → Link} {cause : FaultCause}
    (mem : move ∈ [Link.toSeeking, Link.toOff, Link.toFault cause]) (l : Link) : move l.clearTransport = l.leaving move := by
  simp only [List.mem_cons, List.not_mem_nil, or_false] at mem
  rcases mem with rfl | rfl | rfl <;> rfl

theorem leavesUp_of_mem {move : Link → Link} {cause : FaultCause}
    (mem : move ∈ [Link.toSeeking, Link.toOff, Link.toFault cause]) : LeavesUp move := by
  simp only [List.mem_cons, List.not_mem_nil, or_false] at mem
  rcases mem with rfl | rfl | rfl
  · exact leavesUp_toSeeking
  · exact leavesUp_toOff
  · exact leavesUp_toFault cause

theorem edgeIf_false : edgeIf false = fun before => if before then 1 else 0 := by
  funext before
  cases before <;> rfl

theorem edgeIf_true : edgeIf true = fun before => if before then 0 else 1 := by
  funext before
  cases before <;> rfl

/-- R70: an entry that leaving UP of link `k` does not free. -/
theorem linkDown_survivor {k : LinkId} {e : RemoteEntry} (survives : ¬(e.link = k ∧ e.state = .orphan)) :
    e.linkDown k =
      if e.link ≠ k then e
      else if e.state = .done then { e with orphanMark := false }
      else { e with state := .done, status := 0x0C, data := [], orphanMark := false, timer := none } := by
  by_cases own : e.link = k
  · rw [if_neg (not_not.mpr own)]
    by_cases done : e.state = .done
    · rw [if_pos done, linkDown_done own done]
    · rw [if_neg done, linkDown_ends]
      · rfl
      · rw [endsWith_iff]
        cases state : e.state <;> simp_all
  · rw [if_pos own, linkDown_other own]

/-- Settles O33: the updates in their order by unfolding, the records by what each update writes, and the remote entries one by one. -/
theorem leavingUpResolvesTheSession : Obligations.LeavingUpResolvesTheSession := by
  refine ⟨fun s k move cause mem sources => ?_, fun k t => ⟨?_, ?_, rfl, rfl⟩⟩
  · intro t
    have moved : (fun l : Link => move l.clearTransport) = Link.leaving move := funext (move_clearTransport mem)
    obtain ⟨_, _, _, _, _, _, _, _, _, rest⟩ := leaveUp_worked k move s
    refine ⟨?_, ?_, fun c imported => ?_, fun c status => ?_, fun c notImport notStatus other => ?_,
      fun j other => leaveUp_linkAt_changes other move s, leaveUp_remote k move s, ?_⟩
    · change s.leaveUp k move = _
      rw [leaveUp_eq, State.toldDown, moved, State.linkStatus, edgeIf_false]
      rfl
    · exact (leaveUp_linkAt_own k (leavesUp_of_mem mem) s).trans (by rw [move_clearTransport mem]; rfl)
    · exact (leaveUp_chan sources k move (by rw [imported]; rfl)).trans (if_pos imported)
    · refine (leaveUp_chan sources k move (by rw [status]; rfl)).trans ?_
      rw [if_neg (by rw [status]; nofun), if_pos status]
    · refine (leaveUp_chan sources k move other).trans ?_
      rw [if_neg notImport, if_neg notStatus]
    · change (s.leaveUp k move).executor = _ ∧ (s.leaveUp k move).host = _ ∧ (s.leaveUp k move).node = _ ∧
        (s.leaveUp k move).held = _ ∧ (s.leaveUp k move).pending = _
      rw [rest]
      exact ⟨rfl, rfl, rfl, rfl, rfl⟩
  · have survives : (fun e : RemoteEntry => !(e.link == k && e.state == .orphan)) =
        fun e => decide ¬(e.link = k ∧ e.state = .orphan) := by
      funext e
      simp [beq_eq_decide]
    rw [RemoteTable.linkDown, survives]
    exact List.map_congr_left fun e he => linkDown_survivor (of_decide_eq_true (List.mem_filter.mp he).2)
  · have ends : RemoteEntry.endsWith k = fun e => decide (e.link = k ∧ (e.state = .queued ∨ e.state = .sent)) := by
      funext e
      rw [Bool.eq_iff_iff, endsWith_iff, decide_eq_true_iff]
    rw [RemoteTable.linkDown, ends]

/-! ### The HELLO -/

theorem nodeless_iff (h : Hello) : h.nodeless = true ↔ h.node = 0 ∨ h.node = 255 := by simp [Hello.nodeless]

/-- R64: a HELLO of the present session. -/
theorem presentSession_iff (h : Hello) (l : Link) :
    l.presentSession h = true ↔
      h.version = 1 ∧ l.peerNode = some h.node ∧ h.session = l.peerSession ∧ h.seen ≠ 0 ∧ h.echo = l.session := by
  simp [Link.presentSession, Config.helloVersion, and_assoc]

/-- R71: a link that is not UP enters FAULT, and the flag names the cause. -/
theorem enterFault_down {s : State} {k : LinkId} (down : (s.linkAt k).state ≠ .up) (cause : FaultCause) :
    s.enterFault k cause = (s.modLink k (Link.toFault cause)).raise (.linkFault k) cause.code := by
  rw [State.enterFault, if_neg down]

/-- R110: the snapshot entries of a set, channel by channel. -/
theorem snapshot_eq (set : ChannelSet) (s : State) :
    s.snapshot set = (List.finRange 64).filterMap fun c : ChannelId =>
      if set.getLsbD c.val then some ⟨c, (s.chan c).value, decide ((s.chan c).state = .valid), 0⟩ else none := by
  rw [State.snapshot, ← List.filterMap_eq_map, List.filterMap_filter]
  simp only [snapshotEntry, beq_eq_decide, Function.comp_apply]
  rfl

/-- Settles O34: the steps of a HELLO in SEEKING in order, entry into UP, and a HELLO in UP by whose session it is of. -/
theorem helloMovesTheSession : Obligations.HelloMovesTheSession := by
  refine ⟨fun s k h seeking => ?_, fun s k => ?_, fun s k h up => ?_⟩
  · have down : ((s.modLink k (Link.recordPeer h)).linkAt k).state ≠ .up := by
      rw [State.linkAt_modLink, if_pos rfl]
      exact fun up => LinkState.noConfusion (seeking.symm.trans up)
    rw [State.helloInSeeking]
    dsimp only
    rw [enterFault_down down, enterFault_down down]
    exact if_congr (nodeless_iff h) rfl rfl
  · rw [State.enterUp, State.linkStatus, edgeIf_true, snapshot_eq]
    rfl
  · rw [State.helloInUp]
    exact if_congr (presentSession_iff h _) rfl (if_congr (nodeless_iff h) rfl rfl)

/-! ### The timers -/

/-- log 2, log 4: what an expiry answers, by its timer. -/
theorem expiry_eq {s : State} (running : s.held = false) (timer : Timer) (effect : State → State) :
    expiry timer effect s = .next (if timer ≠ some 0 then s else (effect s).settle) := by
  by_cases waits : timer ≠ some 0
  · rw [if_pos waits, expiry_waits effect s waits]
  · rw [if_neg waits, not_not.mp waits, expiry_ranOut running]

/-- R94: the retransmit timer counts, and faults the link or begins a go-back. -/
theorem retransmitExpiry_eq (k : LinkId) (s : State) :
    s.retransmitExpiry k =
      let t := s.modLink k fun l =>
        { l with
          retryCount := l.retryCount + 1
          counters := { l.counters with timerExpiries := satAdd l.counters.timerExpiries 1 } }
      if (s.linkAt k).config.maxRetries.toNat < (s.linkAt k).retryCount + 1 then
        State.raise (.linkFault k) 1
          (if (s.linkAt k).state = .up then t.leaveUp k (Link.toFault .retryLimit) else t.modLink k (Link.toFault .retryLimit))
      else t.modLink k fun l =>
        { l with resendPoint := some l.oldest, retransmitTimer := some (ofMs l.config.retransmit) } := by
  unfold State.retransmitExpiry State.enterFault
  simp only [State.linkAt_modLink, if_true]
  rfl

/-- R77, R94: the retransmit timer of a link has time left, or is stopped. -/
structure Link.RetransmitWaits (l : Link) : Prop where
  timeout : 2 ≤ l.config.retransmit.toNat
  waits : l.retransmitTimer ≠ some 0

theorem ofMs_ne_zero {b : Byte} (timeout : 2 ≤ b.toNat) : some (ofMs b) ≠ some 0 := by
  have ms : ofMs b = 10 * b.toNat := rfl
  rw [ne_eq, Option.some.injEq]
  omega

theorem Link.RetransmitWaits.congr {l l' : Link} (h : l.RetransmitWaits) (config : l'.config = l.config)
    (timer : l'.retransmitTimer = l.retransmitTimer) : l'.RetransmitWaits :=
  ⟨by rw [config]; exact h.timeout, by rw [timer]; exact h.waits⟩

theorem Link.RetransmitWaits.begin {l : Link} (h : l.RetransmitWaits) (kind seq : Byte) (body : List Byte) :
    (l.begin kind seq body).RetransmitWaits := by
  unfold Link.begin
  dsimp only
  split <;> exact h.congr rfl rfl

/-- R91, R93: a frame that begins starts the retransmit timer with its whole timeout, or leaves it. -/
theorem retransmitWaits_keptByChoices : KeptByChoices Link.RetransmitWaits where
  hello := fun {l} node h =>
    (Link.RetransmitWaits.begin (l := { l with helloOwed := false }) (h.congr rfl rfl) _ _ _).congr rfl rfl
  ack h := (h.begin _ _ _).congr rfl rfl
  resend := fun {l} p h => by
    have moved : Link.RetransmitWaits { l with resendPoint := l.afterResend p } := h.congr rfl rfl
    unfold Link.resend
    split
    · exact (moved.begin _ _ _).congr rfl rfl
    · exact h.congr rfl rfl
  emptySlot h := h.congr rfl rfl
  dropChanges n h := h.congr rfl rfl
  data kind body _ _ h := by
    refine Link.RetransmitWaits.congr (Link.RetransmitWaits.begin ?_ _ _ _) rfl rfl
    rw [appendRecord_eq]
    refine ⟨h.timeout, ?_⟩
    dsimp only
    split
    · exact ofMs_ne_zero h.timeout
    · exact h.waits

/-- R87, R96: an ack that removes records starts the retransmit timer again, or stops it. -/
theorem retransmitWaits_takeAck {l : Link} {a : Byte} (timeout : 2 ≤ l.config.retransmit.toNat)
    (valid : distance l.oldest a ≤ distance l.oldest l.nextSend) (removes : distance l.oldest a ≠ 0) :
    (l.takeAck a).RetransmitWaits := by
  cases left : l.queue.drop (distance l.oldest a) with
  | nil =>
    rw [takeAck_all valid removes left]
    exact ⟨timeout, nofun⟩
  | cons r rest =>
    rw [takeAck_part valid removes left]
    exact ⟨timeout, ofMs_ne_zero timeout⟩

/-- Settles O36: each expiry by its timer (`expiry_eq`), and after an ack the timer that has time left or is stopped
(`Link.RetransmitWaits`), which no choice of an arbiter changes. -/
theorem linkTimersAndFrameEnd : Obligations.LinkTimersAndFrameEnd := by
  refine ⟨fun k s running => ?_, fun k s running => ?_, fun k s a => ?_⟩
  · refine ⟨expiry_eq running _ _, expiry_eq running _ _, expiry_eq running _ _, expiry_eq running _ _, expiry_eq running _ _, ?_⟩
    rw [exec, execLinkTxEnd]
    cases line : (s.linkAt k).line with
    | none => exact event_idle s _
    | some bytes => exact event_occurs running
  · refine ⟨expiry_eq running _ _, (expiry_eq running _ _).trans ?_⟩
    rw [retransmitExpiry_eq]
    rfl
  · intro l o timeout removes valid t
    have acked : (t.linkAt k).RetransmitWaits := by
      rw [State.linkAt_modLink, if_pos rfl]
      exact retransmitWaits_takeAck timeout valid removes
    exact ⟨expiry_waits _ t acked.waits, expiry_waits _ t.settle (retransmitWaits_keptByChoices.settle acked).waits⟩

end Sys2Proof.Machine
end

section
/-! PROOFS. The requests of the hub as a whole and the link requests that configure and read: O13, O35. -/

namespace Sys2Proof.Machine

@[simp] theorem takeGrant_remote (g : Grant) (s : State) : (s.takeGrant g).remote = s.remote := by
  obtain ⟨_, only⟩ := takeGrant_only g s
  rw [only]

/-- R145: of the host port a grant takes the accepted request alone. -/
@[simp] theorem takeGrant_counters (g : Grant) (s : State) : (s.takeGrant g).host.counters = s.host.counters := by
  obtain ⟨_, only⟩ := takeGrant_only g s
  rw [only]

/-! ### The requests of the hub as a whole -/

/-- R153: the data of IDENTIFY, byte by byte. -/
theorem identity_eq (s : State) : s.identity = [0x2B, 0x24, 0x04, 1, 24, 64, 8, 4, 6, 16, s.node] := rfl

theorem byteOfBool_bne_zero (f : FlagSet) : byteOfBool (f != 0) = if f = 0 then 0 else 1 := by
  by_cases none : f = 0 <;> simp [byteOfBool, none]

/-- R154: the data of STATUS, byte by byte. -/
theorem statusData_eq (s : State) :
    s.statusData =
      [(s.linkAt 0).state.code, (s.linkAt 1).state.code, (s.linkAt 2).state.code, (s.linkAt 3).state.code,
        byteOfNat s.remote.entries.length, byteOfNat (s.remote.entries.filter fun e => e.state == .done).length] ++
        bytesOf16 s.remote.lateCount ++
        [byteOfNat s.events.notices.length, if s.events.flags = 0 then 0 else 1, s.node] := by
  rw [State.statusData, byteOfBool_bne_zero, RemoteTable.doneCount, List.countP_eq_length_filter, allLinks_eq]
  rfl

/-- R142: a RESET comes from the host. -/
theorem source_of_reset {s : State} {g : Grant} (h : s.Grants g 0x03 []) : g.src = .host := by
  obtain ⟨src, req⟩ := g
  cases src with
  | host => rfl
  | slot k =>
    have denied : s.permits ⟨.slot k, req⟩ = false :=
      permits_never (lowestPolicy_never (by rw [show req.kind = 0x03 from h.kind]; decide))
    have permitted := h.permitted
    rw [denied] at permitted
    cases permitted

/-- R148: a kind outside 0x01 to 0x1A is no request kind. -/
theorem isRequestKind_eq_false {kind : Byte} (unknown : kind.toNat = 0 ∨ 0x1A < kind.toNat) : isRequestKind kind = false := by
  have outside : ¬(1 ≤ kind.toNat ∧ kind.toNat ≤ 0x1A) := by omega
  simpa [isRequestKind] using outside

/-- R59: SET_NODE, its checks in order. -/
theorem setNodeRule_eq (id : Byte) (s : State) :
    setNodeRule [id] s =
      if id = 0 ∨ id = 255 then .error .badArgument
      else if ∃ k, (s.linkAt k).state ≠ .off then .error .wrongState
      else .ok ({ s with node := id }, []) := by
  have running : (allLinks.any fun k => (s.linkAt k).state != .off) = true ↔ ∃ k, (s.linkAt k).state ≠ .off := by
    simp [allLinks]
  rw [setNodeRule]
  exact if_congr Iff.rfl rfl (if_congr running rfl rfl)

/-- R176, R103: a clear flag is 0 or 1. -/
theorem boolOf_cases (b : Byte) : b = 0 ∧ boolOf b = some false ∨ b = 1 ∧ boolOf b = some true ∨ b ≠ 0 ∧ b ≠ 1 ∧ boolOf b = none := by
  unfold boolOf
  split
  · exact .inl ⟨‹_›, rfl⟩
  · split
    · exact .inr (.inl ⟨‹_›, rfl⟩)
    · exact .inr (.inr ⟨‹_›, ‹_›, rfl⟩)

/-- Settles O13, request by request. -/
theorem hubRequestsAnswerAndAct : Obligations.HubRequestsAnswerAndAct := by
  refine ⟨⟨fun s g h => ?_, fun s g h => ?_, fun s g h => ⟨source_of_reset h, ?_⟩, fun s g running next unknown => ?_⟩,
    fun s g id h => ?_, fun s g kb clear h => ?_, fun s g clear h => ?_⟩
  · rw [exec, execIdentify, request_of_grants h (ofKind_of_grants h) rfl rfl, identifyRule, identity_eq, takeGrant_node]
    rfl
  · rw [exec, execStatus, request_of_grants h (ofKind_of_grants h) rfl rfl, statusRule, statusData_eq]
    simp only [takeGrant_linkAt, takeGrant_remote, takeGrant_events, takeGrant_node, conclude_ok]
  · rw [exec, execReset, request_of_grants h (ofKind_of_grants h) rfl rfl]
    rfl
  · have other := isRequestKind_eq_false unknown
    exact request_refused (serves := fun r => !isRequestKind r.kind) running next (by rw [other]; rfl) (judge_unknownKind _ other)
  · rw [exec, execSetNode, request_of_grants h (ofKind_of_grants h) rfl rfl, setNodeRule_eq]
    simp only [takeGrant_linkAt]
    congr 1
    split
    · rfl
    split <;> rfl
  · rw [exec, execLinkStats, request_of_grants h (ofKind_of_grants h) rfl rfl, linkStatsRule]
    congr 1
    cases named : linkOf kb with
    | none => rfl
    | some k =>
      rcases boolOf_cases clear with ⟨rfl, flag⟩ | ⟨rfl, flag⟩ | ⟨notZero, notOne, flag⟩
      · simp only [flag, takeGrant_linkAt, byteOfNat_of_indexOf named]
        rfl
      · simp only [flag, takeGrant_linkAt, byteOfNat_of_indexOf named]
        rfl
      · simp only [flag, if_neg notZero, if_neg notOne]
        rfl
  · rw [exec, execHostStats, request_of_grants h (ofKind_of_grants h) rfl rfl, hostStatsRule]
    congr 1
    rcases boolOf_cases clear with ⟨rfl, flag⟩ | ⟨rfl, flag⟩ | ⟨notZero, notOne, flag⟩
    · simp only [flag, takeGrant_counters]
      rfl
    · simp only [flag, takeGrant_counters]
      rfl
    · simp only [flag, if_neg notZero, if_neg notOne]
      rfl

/-! ### The link requests that configure and read -/

/-- R77 check 1: the ranges of the six fields, and the silence timeout against the keepalive interval. -/
theorem linkConfigOf_eq (keepalive silence retransmit maxRetries window auto : Byte) :
    linkConfigOf keepalive silence retransmit maxRetries window auto =
      if 5 ≤ keepalive.toNat ∧ keepalive.toNat ≤ 250 ∧ 2 ≤ silence.toNat ∧ 2 ≤ retransmit.toNat ∧ 1 ≤ maxRetries.toNat ∧
          maxRetries.toNat ≤ 15 ∧ 1 ≤ window.toNat ∧ window.toNat ≤ 8 ∧ auto.toNat ≤ 1 ∧
          2 * keepalive.toNat ≤ 10 * silence.toNat then
        some ⟨keepalive, silence, retransmit, maxRetries, window, auto == 1⟩
      else none := by
  rw [linkConfigOf, boolOf_eq]
  by_cases large : 2 ≤ auto.toNat
  · rw [if_pos large, if_neg (by omega)]
  · rw [if_neg large]
    exact if_congr (by omega) rfl rfl

/-- R78: the policy that a byte names. -/
theorem policyOf_eq (p : Byte) :
    policyOf p =
      if p = 0 then some .none else if p = 1 then some .observe else if p = 2 then some .operate
      else if p = 3 then some .full else none := by
  unfold policyOf
  split
  next h => obtain rfl := (eq_ofNat_iff p 0 (by decide)).mpr h; rfl
  next h => obtain rfl := (eq_ofNat_iff p 1 (by decide)).mpr h; rfl
  next h => obtain rfl := (eq_ofNat_iff p 2 (by decide)).mpr h; rfl
  next h => obtain rfl := (eq_ofNat_iff p 3 (by decide)).mpr h; rfl
  next =>
    rw [if_neg, if_neg, if_neg, if_neg]
    all_goals rintro rfl; contradiction

/-- R79: the data of LINK_STATUS, byte by byte. -/
theorem linkStatusData_eq {kb : Byte} {k : LinkId} (named : linkOf kb = some k) (l : Link) :
    l.statusData k =
      [kb, l.state.code, l.session, l.peerNode.getD 0, l.peerSession, l.peerWindow,
        l.lastFault.code, l.policy.code, byteOfNat l.queue.length, byteOfNat l.changes.length, l.config.keepalive,
        l.config.silence, l.config.retransmit, l.config.maxRetries, l.config.window,
        if l.config.autoRestart then 1 else 0] := by
  rw [Link.statusData, byteOfNat_of_indexOf named]
  rfl

/-- R105: the set names an imported channel of the link. -/
theorem loops_iff (k : LinkId) (bytes : List Byte) (s : State) :
    (allChannels.any fun c : ChannelId => (channelsOfBytes bytes).getLsbD c && (s.chan c).source == .link k) = true ↔
      ∃ c : ChannelId, (bytes.getD (c.val / 8) 0).getLsbD (c.val % 8) = true ∧ (s.chan c).source = .link k := by
  simp only [List.any_eq_true, mem_allChannels, true_and, Bool.and_eq_true, beq_iff_eq]
  exact exists_congr fun c => by rw [channelsOfBytes_getLsbD bytes c.val c.isLt]

/-- R105: the channels that a new set adds to the exported ones. -/
theorem added_getLsbD (bytes : List Byte) (l : Link) (c : ChannelId) :
    (channelsOfBytes bytes &&& ~~~l.exported).getLsbD c.val =
      ((bytes.getD (c.val / 8) 0).getLsbD (c.val % 8) && !l.exports c) := by
  rw [BitVec.getLsbD_and, BitVec.getLsbD_not, channelsOfBytes_getLsbD bytes c.val c.isLt, decide_eq_true c.isLt, Bool.true_and]
  rfl

/-- R105 steps 1 to 3, with the set read byte by byte. -/
theorem exportChannels_eq (k : LinkId) (bytes : List Byte) (s : State) :
    s.exportChannels k (channelsOfBytes bytes) =
      s.modLink k fun l =>
        { l with
          exported := channelsOfBytes bytes
          changes :=
            (l.changes.filter fun e => (bytes.getD (e.channel.val / 8) 0).getLsbD (e.channel.val % 8)) ++
              (if l.state = .up then
                (List.finRange 64).filterMap fun c : ChannelId =>
                  if (bytes.getD (c.val / 8) 0).getLsbD (c.val % 8) && !l.exports c then
                    some ⟨c, (s.chan c).value, decide ((s.chan c).state = .valid), 0⟩
                  else none
              else []) } := by
  rw [State.exportChannels]
  congr 1
  funext l
  rw [snapshot_eq]
  simp only [added_getLsbD, channelsOfBytes_getLsbD bytes _ (Fin.isLt _)]

/-- Settles O35, request by request. -/
theorem linkRequestsConfigureAndRead : Obligations.LinkRequestsConfigureAndRead := by
  refine ⟨⟨fun s g kb keepalive silence retransmit maxRetries window auto h => ?_, fun s g kb p h => ?_⟩, fun s g kb h => ?_,
    fun s g kb count bytes h fits => ?_⟩
  · rw [exec, execLinkConfig, request_of_grants h (ofKind_of_grants h) rfl rfl, linkConfigRule, linkConfigOf_eq]
    congr 1
    cases linkOf kb with
    | none => rfl
    | some k =>
      by_cases inRange : 5 ≤ keepalive.toNat ∧ keepalive.toNat ≤ 250 ∧ 2 ≤ silence.toNat ∧ 2 ≤ retransmit.toNat ∧
        1 ≤ maxRetries.toNat ∧ maxRetries.toNat ≤ 15 ∧ 1 ≤ window.toNat ∧ window.toNat ≤ 8 ∧ auto.toNat ≤ 1 ∧
        2 * keepalive.toNat ≤ 10 * silence.toNat
      · simp only [if_pos inRange, takeGrant_linkAt]
        split <;> rfl
      · simp only [if_neg inRange]
        rfl
  · rw [exec, execLinkPolicy, request_of_grants h (ofKind_of_grants h) rfl rfl, linkPolicyRule, policyOf_eq]
    congr 1
    cases linkOf kb with
    | none => rfl
    | some k =>
      by_cases closed : p = 0
      · simp only [if_pos closed, conclude_ok]
      by_cases observing : p = 1
      · simp only [if_neg closed, if_pos observing, conclude_ok]
      by_cases operating : p = 2
      · simp only [if_neg closed, if_neg observing, if_pos operating, conclude_ok]
      by_cases full : p = 3
      · simp only [if_neg closed, if_neg observing, if_neg operating, if_pos full, conclude_ok]
      · simp only [if_neg closed, if_neg observing, if_neg operating, if_neg full, conclude_error]
  · rw [exec, execLinkStatus, request_of_grants h (ofKind_of_grants h) rfl rfl, linkStatusRule]
    congr 1
    cases named : linkOf kb with
    | none => rfl
    | some k =>
      simp only [linkStatusData_eq named, takeGrant_linkAt, conclude_ok]
      cases (s.linkAt k).peerNode <;> rfl
  · rw [exec, execLinkExport, request_of_grants h (ofKind_of_grants h) rfl fits, linkExportRule]
    congr 1
    cases linkOf kb with
    | none => rfl
    | some k =>
      by_cases loops : ∃ c : ChannelId, (bytes.getD (c.val / 8) 0).getLsbD (c.val % 8) = true ∧ (s.chan c).source = .link k
      · simp only [if_pos ((loops_iff k bytes s).mpr loops), if_pos loops, takeGrant_chan, conclude_error]
      · simp only [if_neg (mt (loops_iff k bytes s).mp loops), if_neg loops, takeGrant_chan, conclude_ok, exportChannels_eq]

end Sys2Proof.Machine
end
